-- ==== Sys2Proof/Word.lean ====
section
/-! DEFINITION. The words of the FD16 and their plainest arithmetic (spec/10, R191). -/

namespace Sys2Proof

/-- One byte of the link (R168). -/
abbrev Byte := BitVec 8

/-- A value of the 48-bit timebase (R78); sums and differences are taken modulo 2^48. -/
abbrev Tick := BitVec 48

/-- A signed 32-bit value: a sample, an accumulator or a histogram edge (R54, R82, R107). Its number is `toInt`. -/
abbrev Sample32 := BitVec 32

/-- A probe number P0..P15 (R1). -/
abbrev ProbeId := Fin 16

/-- A line number IN0..IN15 (R69). -/
abbrev LineId := Fin 16

/-- A slot of the Coupling Table (R127). -/
abbrev SlotId := Fin 24

end Sys2Proof
end

