-- ==== Sys2Proof/Syntax.lean ====
section
/-! DEFINITION. The commands of the FD16: one constructor of `Instr` per row of spec/opcode_table.json. The rows give no
bits and no fields; the operands are those the rows' rules give, a request's at the byte widths of R193. -/

namespace Sys2Proof

/-- A plan record as its 24 bytes hold it (R194): every field at its width, undefined codes included. -/
structure PlanRecord where
  kind         : Byte
  lineA        : Byte
  lineB        : Byte
  flags        : Byte
  window       : BitVec 32
  span         : BitVec 16
  maxWindows   : BitVec 24
  minWindows   : Byte
  qualDepth    : Byte
  tol          : BitVec 32
  onSettle     : Byte
  reportSelect : Byte
  quota        : Byte
  lossPolicy   : Byte
  edgeCount    : Byte
  deriving DecidableEq, Repr

/-- A request with its fields as the layouts of R193 carry them. `startAt` shares the kind of `start` (R193). -/
inductive Request where
  | status (clear : Byte)
  | deviceReset
  | credit (mode n : Byte)
  | time
  | lineSet (line profile : Byte)
  | lineRead
  | profileSet (profile : Byte) (threshold : BitVec 16)
  | stageBegin (probe : Byte) (lease : BitVec 32)
  | stageParams (probe : Byte) (record : PlanRecord)
  | stageEdges (probe chunk : Byte) (edges : List Sample32)
  | stageCommit (probe mode : Byte)
  | stageAbort (probe : Byte)
  | start (probe : Byte)
  | startAt (probe : Byte) (tick : Tick)
  | arm (probe : Byte)
  | stop (probe : Byte)
  | probeReset (probe : Byte)
  | probeRead (probe : Byte)
  | snapshot (probe : Byte)
  | histRead (probe half : Byte)
  | histClear (probe : Byte)
  | coupleAdd (source event target action : Byte)
  | coupleRemove (slot : Byte)
  | coupleList
  deriving DecidableEq, Repr

/-- The request kinds of R192. -/
inductive RequestKind where
  | status | deviceReset | credit | time
  | lineSet | lineRead | profileSet
  | stageBegin | stageParams | stageEdges | stageCommit | stageAbort
  | start | arm | stop | probeReset | probeRead | snapshot
  | histRead | histClear
  | coupleAdd | coupleRemove | coupleList
  deriving DecidableEq, Repr

/-- The commands: the steps of spec/95 and spec/opcode_table.json, each whole and indivisible. -/
inductive Instr where
  /-- PIN_RESET (R190): RESET held low and released, with RS1, RS0 and LRX as they stand at the release. -/
  | pinReset (rs1 rs0 lrx : Bool)
  /-- LINE_FILTER_STEP (R70): bit i of `pins` is the level of IN i at this tick. -/
  | lineFilterStep (pins : BitVec 16)
  /-- PROBE_MEASUREMENT (R81). -/
  | probeMeasurement (p : ProbeId)
  /-- WINDOW_COMPLETION (R53). -/
  | windowCompletion (p : ProbeId)
  /-- SWAP (R60). -/
  | swap (p : ProbeId)
  /-- ARMED_DEADLINE (R48). -/
  | armedDeadline (p : ProbeId)
  /-- LEASE_EXPIRY (R28). -/
  | leaseExpiry
  /-- CHARACTER_RECEIVED (R168, R171): the byte receiver delivers `b`. -/
  | characterReceived (b : Byte)
  /-- GAP_ERROR (R172). -/
  | gapError
  /-- BREAK (R173). -/
  | lineBreak
  /-- FRAME_ACCEPT (R175): a good frame with this KIND, TAG and DATA. -/
  | frameAccept (kind tag : Byte) (data : List Byte)
  /-- REPLY_TRANSMIT (R183). -/
  | replyTransmit
  /-- REPORT_DEQUEUE (R160). -/
  | reportDequeue
  /-- FRAME_END (R184). -/
  | frameEnd
  /-- DEVICE_RESET_EFFECT (R189), with RS1, RS0 and LRX as they stand at the reset. -/
  | deviceResetEffect (rs1 rs0 lrx : Bool)
  /-- STATUS (R185). -/
  | status (tag clear : Byte)
  /-- DEVICE_RESET (R187). -/
  | deviceReset (tag : Byte)
  /-- CREDIT (R158). -/
  | credit (tag mode n : Byte)
  /-- TIME (R80). -/
  | time (tag : Byte)
  /-- LINE_SET (R73). -/
  | lineSet (tag line profile : Byte)
  /-- LINE_READ (R76). -/
  | lineRead (tag : Byte)
  /-- PROFILE_SET (R74). -/
  | profileSet (tag profile : Byte) (threshold : BitVec 16)
  /-- STAGE_BEGIN (R25). -/
  | stageBegin (tag probe : Byte) (lease : BitVec 32)
  /-- STAGE_PARAMS (R30). -/
  | stageParams (tag probe : Byte) (record : PlanRecord)
  /-- STAGE_EDGES (R33). -/
  | stageEdges (tag probe chunk : Byte) (edges : List Sample32)
  /-- STAGE_COMMIT (R35). -/
  | stageCommit (tag probe mode : Byte)
  /-- STAGE_ABORT (R42). -/
  | stageAbort (tag probe : Byte)
  /-- START (R45). -/
  | start (tag probe : Byte)
  /-- START_AT (R46). -/
  | startAt (tag probe : Byte) (tick : Tick)
  /-- ARM (R47). -/
  | arm (tag probe : Byte)
  /-- STOP (R49). -/
  | stop (tag probe : Byte)
  /-- PROBE_RESET (R63). -/
  | probeReset (tag probe : Byte)
  /-- PROBE_READ (R9). -/
  | probeRead (tag probe : Byte)
  /-- SNAPSHOT (R52). -/
  | snapshot (tag probe : Byte)
  /-- HIST_READ (R123). -/
  | histRead (tag probe half : Byte)
  /-- HIST_CLEAR (R125). -/
  | histClear (tag probe : Byte)
  /-- COUPLE_ADD (R129). -/
  | coupleAdd (tag source event target action : Byte)
  /-- COUPLE_REMOVE (R130). -/
  | coupleRemove (tag slot : Byte)
  /-- COUPLE_LIST (R131). -/
  | coupleList (tag : Byte)
  /-- TIMEBASE_ADVANCE (R78), with the LRX level of the new tick (R168). -/
  | timebaseAdvance (lrx : Bool)
  /-- CHARACTER_DISCARDED (R168): a character's stop bit sampled low. -/
  | characterDiscarded
  deriving DecidableEq, Repr

end Sys2Proof
end

