-- ==== Sys2Proof/Decode.lean ====
section
/-! DEFINITION. Reading commands from bits and requests from bytes. No row of spec/opcode_table.json gives bits, so
`decodeTableWord` spells none; what the FD16 does decode is the KIND and DATA of a frame (R179, R191 to R194), total on any bytes,
with an encoder beside it. -/

namespace Sys2Proof

/-- No row of the table gives bits: a word spells no command. -/
def decodeTableWord (_nbits _w : Nat) : Option Instr := none

/-- Little-endian bytes of a number, `n` of them (R191). -/
def leBytes : Nat → Nat → List Byte
  | 0, _ => []
  | n + 1, v => BitVec.ofNat 8 (v % 256) :: leBytes n (v / 256)

/-- The number of little-endian bytes (R191). -/
def leNat : List Byte → Nat
  | [] => 0
  | b :: bs => b.toNat + 256 * leNat bs

/-- The little-endian number of the `n` bytes at offset `off` of DATA. -/
def leField (data : List Byte) (off n : Nat) : Nat := leNat ((data.drop off).take n)

/-- The byte at offset `off` of DATA. -/
def byteField (data : List Byte) (off : Nat) : Byte := data.getD off 0

/-- The kind codes of R192. -/
def RequestKind.code : RequestKind → Byte
  | .status => 0x01 | .deviceReset => 0x02 | .credit => 0x03 | .time => 0x04
  | .lineSet => 0x10 | .lineRead => 0x11 | .profileSet => 0x12
  | .stageBegin => 0x20 | .stageParams => 0x21 | .stageEdges => 0x22 | .stageCommit => 0x23 | .stageAbort => 0x24
  | .start => 0x30 | .arm => 0x31 | .stop => 0x32 | .probeReset => 0x33 | .probeRead => 0x34 | .snapshot => 0x35
  | .histRead => 0x38 | .histClear => 0x39
  | .coupleAdd => 0x40 | .coupleRemove => 0x41 | .coupleList => 0x42

/-- Every request kind, in the order of R192. -/
def RequestKind.all : List RequestKind :=
  [.status, .deviceReset, .credit, .time, .lineSet, .lineRead, .profileSet,
   .stageBegin, .stageParams, .stageEdges, .stageCommit, .stageAbort,
   .start, .arm, .stop, .probeReset, .probeRead, .snapshot, .histRead, .histClear,
   .coupleAdd, .coupleRemove, .coupleList]

/-- Check 1 of R179: the request kind a KIND byte names, if any. -/
def RequestKind.ofCode (b : Byte) : Option RequestKind := RequestKind.all.find? (fun k => k.code == b)

/-- The two ways dispatch refuses a frame before any field is read (R179, checks 1 and 2). -/
inductive DispatchFault where
  | badKind
  | badLength
  deriving DecidableEq, Repr

/-- The plan record of 24 bytes, by the offsets of R194. -/
def PlanRecord.ofBytes (d : List Byte) : PlanRecord where
  kind := byteField d 0
  lineA := byteField d 1
  lineB := byteField d 2
  flags := byteField d 3
  window := BitVec.ofNat 32 (leField d 4 4)
  span := BitVec.ofNat 16 (leField d 8 2)
  maxWindows := BitVec.ofNat 24 (leField d 10 3)
  minWindows := byteField d 13
  qualDepth := byteField d 14
  tol := BitVec.ofNat 32 (leField d 15 4)
  onSettle := byteField d 19
  reportSelect := byteField d 20
  quota := byteField d 21
  lossPolicy := byteField d 22
  edgeCount := byteField d 23

/-- The 24 bytes of a plan record (R194). -/
def PlanRecord.bytes (r : PlanRecord) : List Byte :=
  [r.kind, r.lineA, r.lineB, r.flags]
    ++ leBytes 4 r.window.toNat ++ leBytes 2 r.span.toNat ++ leBytes 3 r.maxWindows.toNat
    ++ [r.minWindows, r.qualDepth]
    ++ leBytes 4 r.tol.toNat
    ++ [r.onSettle, r.reportSelect, r.quota, r.lossPolicy, r.edgeCount]

/-- The edges of a chunk, four bytes each; `n` of them (R194). -/
def edgesOfBytes : Nat → List Byte → List Sample32
  | 0, _ => []
  | n + 1, d => BitVec.ofNat 32 (leNat (d.take 4)) :: edgesOfBytes n (d.drop 4)

/-- The bytes of a chunk's edges (R194). -/
def edgeBytes : List Sample32 → List Byte
  | [] => []
  | e :: es => leBytes 4 e.toNat ++ edgeBytes es

/-- DATA of exactly `n` bytes gives the request, any other length is refused (R193). -/
def ofLength (data : List Byte) (n : Nat) (r : Request) : Except DispatchFault Request :=
  if data.length = n then .ok r else .error .badLength

/-- Check 2 of R179 with the layouts of R193: the request that DATA of a kind carries, or BAD_LENGTH. -/
def RequestKind.parse (k : RequestKind) (d : List Byte) : Except DispatchFault Request :=
  match k with
  | .status => ofLength d 1 (.status (byteField d 0))
  | .deviceReset => ofLength d 0 .deviceReset
  | .credit => ofLength d 2 (.credit (byteField d 0) (byteField d 1))
  | .time => ofLength d 0 .time
  | .lineSet => ofLength d 2 (.lineSet (byteField d 0) (byteField d 1))
  | .lineRead => ofLength d 0 .lineRead
  | .profileSet => ofLength d 3 (.profileSet (byteField d 0) (BitVec.ofNat 16 (leField d 1 2)))
  | .stageBegin => ofLength d 5 (.stageBegin (byteField d 0) (BitVec.ofNat 32 (leField d 1 4)))
  | .stageParams => ofLength d 25 (.stageParams (byteField d 0) (PlanRecord.ofBytes (d.drop 1)))
  | .stageEdges =>
    if 6 ≤ d.length ∧ d.length ≤ 34 ∧ (d.length - 2) % 4 = 0 then
      .ok (.stageEdges (byteField d 0) (byteField d 1) (edgesOfBytes ((d.length - 2) / 4) (d.drop 2)))
    else .error .badLength
  | .stageCommit => ofLength d 2 (.stageCommit (byteField d 0) (byteField d 1))
  | .stageAbort => ofLength d 1 (.stageAbort (byteField d 0))
  | .start =>
    if d.length = 1 then .ok (.start (byteField d 0))
    else ofLength d 7 (.startAt (byteField d 0) (BitVec.ofNat 48 (leField d 1 6)))
  | .arm => ofLength d 1 (.arm (byteField d 0))
  | .stop => ofLength d 1 (.stop (byteField d 0))
  | .probeReset => ofLength d 1 (.probeReset (byteField d 0))
  | .probeRead => ofLength d 1 (.probeRead (byteField d 0))
  | .snapshot => ofLength d 1 (.snapshot (byteField d 0))
  | .histRead => ofLength d 2 (.histRead (byteField d 0) (byteField d 1))
  | .histClear => ofLength d 1 (.histClear (byteField d 0))
  | .coupleAdd => ofLength d 4 (.coupleAdd (byteField d 0) (byteField d 1) (byteField d 2) (byteField d 3))
  | .coupleRemove => ofLength d 1 (.coupleRemove (byteField d 0))
  | .coupleList => ofLength d 0 .coupleList

/-- Checks 1 and 2 of R179 on a frame's KIND and DATA. -/
def decodeRequest (kind : Byte) (data : List Byte) : Except DispatchFault Request :=
  match RequestKind.ofCode kind with
  | none => .error .badKind
  | some k => k.parse data

/-- The kind of a request (R192; START and START AT share one, R193). -/
def Request.kind : Request → RequestKind
  | .status _ => .status | .deviceReset => .deviceReset | .credit _ _ => .credit | .time => .time
  | .lineSet _ _ => .lineSet | .lineRead => .lineRead | .profileSet _ _ => .profileSet
  | .stageBegin _ _ => .stageBegin | .stageParams _ _ => .stageParams | .stageEdges _ _ _ => .stageEdges
  | .stageCommit _ _ => .stageCommit | .stageAbort _ => .stageAbort
  | .start _ => .start | .startAt _ _ => .start | .arm _ => .arm | .stop _ => .stop
  | .probeReset _ => .probeReset | .probeRead _ => .probeRead | .snapshot _ => .snapshot
  | .histRead _ _ => .histRead | .histClear _ => .histClear
  | .coupleAdd _ _ _ _ => .coupleAdd | .coupleRemove _ => .coupleRemove | .coupleList => .coupleList

/-- The DATA of a request, by the layouts of R193. -/
def Request.data : Request → List Byte
  | .status clear => [clear]
  | .deviceReset => []
  | .credit mode n => [mode, n]
  | .time => []
  | .lineSet line profile => [line, profile]
  | .lineRead => []
  | .profileSet profile threshold => profile :: leBytes 2 threshold.toNat
  | .stageBegin probe lease => probe :: leBytes 4 lease.toNat
  | .stageParams probe record => probe :: record.bytes
  | .stageEdges probe chunk edges => probe :: chunk :: edgeBytes edges
  | .stageCommit probe mode => [probe, mode]
  | .stageAbort probe => [probe]
  | .start probe => [probe]
  | .startAt probe tick => probe :: leBytes 6 tick.toNat
  | .arm probe => [probe]
  | .stop probe => [probe]
  | .probeReset probe => [probe]
  | .probeRead probe => [probe]
  | .snapshot probe => [probe]
  | .histRead probe half => [probe, half]
  | .histClear probe => [probe]
  | .coupleAdd source event target action => [source, event, target, action]
  | .coupleRemove slot => [slot]
  | .coupleList => []

/-- A request whose DATA has a length its kind allows: only STAGE_EDGES has one that depends on a list (R193). -/
def Request.lengthAllowed : Request → Bool
  | .stageEdges _ _ edges => decide (1 ≤ edges.length ∧ edges.length ≤ 8)
  | _ => true

/-- The request that a host's typed command carries, or BAD_LENGTH where its DATA has a length its kind does not allow (R179). -/
def Request.checkLength (r : Request) : Except DispatchFault Request :=
  if r.lengthAllowed then .ok r else .error .badLength

end Sys2Proof
end

