-- ==== Sys2Proof/Config.lean ====
section
/-! DEFINITION. What is fixed for the part this manual describes: the sizes, limits and codes its rules state as numbers. -/

namespace Sys2Proof.Config

/-- The lead byte of a frame (R169). -/
def leadByte : Byte := 0xB6#8

/-- The revision code of the BOOT report (R163). -/
def revisionCode : Byte := 0x01#8

/-- The counts of the BOOT report: probes, lines, queue entries, couplings (R163). -/
def probeCount : Nat := 16
def lineCount : Nat := 16
def queueEntries : Nat := 64
def couplingCount : Nat := 24

/-- The probe and system shares of the Report Queue (R146). -/
def probeShare : Nat := 60
def systemShare : Nat := 4

/-- The reply queue and the reply cache hold four entries each (R177, R182). -/
def replyQueueSize : Nat := 4
def replyCacheSize : Nat := 4

/-- Couplings fire only from events of depth below 4 (R137). -/
def cascadeDepth : Nat := 4

/-- The thresholds of profiles 1 to 4 after reset, in ticks (R72). -/
def resetThreshold1 : Nat := 4
def resetThreshold2 : Nat := 16
def resetThreshold3 : Nat := 64
def resetThreshold4 : Nat := 256

end Sys2Proof.Config
end

