-- ==== Sys2Proof/Machine/State.lean ====
section
/-! DEFINITION. The state of the FD16, block by block, as plain data, and its value right after reset. -/

namespace Sys2Proof.Machine

/-! ### The plan (R11) -/

/-- The seven measurement kinds (R12). -/
inductive Kind where
  | levelTime | highTime | span | count | updown | quad | dropout
  deriving DecidableEq, Repr

/-- tol_kind (R16). -/
inductive TolKind where
  | abs | rel
  deriving DecidableEq, Repr

/-- on_settle (R16). -/
inductive OnSettle where
  | stop | continue
  deriving DecidableEq, Repr

/-- report_select (R17). -/
inductive ReportSelect where
  | every | changes | endOnly
  deriving DecidableEq, Repr

/-- loss_policy (R18). -/
inductive LossPolicy where
  | count | halt
  deriving DecidableEq, Repr

/-- A plan record that has passed validation: the seventeen fields of R11. -/
structure Plan where
  kind         : Kind
  lineA        : LineId
  invertA      : Bool
  lineB        : Option LineId
  invertB      : Bool
  window       : BitVec 32
  span         : BitVec 16
  maxWindows   : BitVec 24
  minWindows   : Byte
  qualDepth    : Nat
  tolKind      : TolKind
  tol          : BitVec 32
  onSettle     : OnSettle
  reportSelect : ReportSelect
  quota        : Nat
  lossPolicy   : LossPolicy
  edgeCount    : Nat
  deriving DecidableEq, Repr

/-! ### The probes (R3) and their Qualifier contexts (R107) -/

/-- The five probe states (R44). -/
inductive ProbeState where
  | free | ready | armed | running | done
  deriving DecidableEq, Repr

/-- The state an ARMED probe was armed from (R6). -/
inductive RestState where
  | ready | done
  deriving DecidableEq, Repr

/-- The five outcomes of a run (R59). -/
inductive RunOutcome where
  | settled | limit | stopped | linked | loss
  deriving DecidableEq, Repr

/-- The accumulator: a signed 32-bit value with its saturated flag (R7, R82). -/
structure Accumulator where
  value     : Sample32
  saturated : Bool
  deriving DecidableEq, Repr

/-- A sample with its flags (R54, R106); `level` is HIGH for a LEVEL_TIME sample of a high level and clear for every other. -/
structure Sample where
  value     : Sample32
  saturated : Bool
  level     : Bool
  deriving DecidableEq, Repr

/-- A histogram: its edges, its bins and the binned total (R107). -/
structure Histogram where
  edges : List Sample32
  bins  : List (BitVec 32)
  total : BitVec 32
  deriving DecidableEq, Repr

/-- A Qualifier context (R107). -/
structure Qualifier where
  history   : List Sample32
  settled   : Bool
  histogram : Option Histogram
  deriving DecidableEq, Repr

/-- A probe record (R3) with the further working values of R82: the level in progress (LEVEL_TIME), the edge count (SPAN), the
expiry countdown (DROPOUT) and the tick of the next boundary (R91; DEDUCED, log 15). -/
structure Probe where
  state        : ProbeState
  plan         : Option Plan
  generation   : BitVec 8
  armedFrom    : Option RestState
  startAt      : Option Tick
  runStart     : Option Tick
  windowsDone  : BitVec 24
  acc          : Accumulator
  windowOpen   : Bool
  levelHigh    : Bool
  edgeCount    : BitVec 16
  countdown    : BitVec 32
  nextBoundary : Tick
  lastSample   : Option Sample
  lastOutcome  : Option RunOutcome
  quadErrors   : BitVec 16
  generated    : BitVec 32
  transmitted  : BitVec 32
  lost         : BitVec 32
  qual         : Qualifier
  deriving DecidableEq, Repr

/-! ### The staging buffer (R23) -/

/-- The phase of a held staging buffer with the fields R23 gives that phase, and no others. -/
inductive Stage where
  | opened (lease : BitVec 32) (deadline : Tick)
  | edges (lease : BitVec 32) (deadline : Tick) (plan : Plan) (received : List Sample32) (nextChunk : Nat)
  | complete (lease : BitVec 32) (deadline : Tick) (plan : Plan) (received : List Sample32)
  | pending (plan : Plan) (received : List Sample32)
  deriving DecidableEq, Repr

/-- The staging buffer while it is held; a released buffer is `none` of this (R23). -/
structure Staging where
  owner : ProbeId
  stage : Stage
  deriving DecidableEq, Repr

/-- The phases named without their contents (R23, R192). -/
inductive Phase where
  | opened | edges | complete | pending
  deriving DecidableEq, Repr

/-! ### The Coupling Table (R127) -/

/-- The five probe events (R133). -/
inductive EventKind where
  | runStart | window | settled | drift | runEnd
  deriving DecidableEq, Repr

/-- The three actions of a coupling (R50). -/
inductive Action where
  | start | stop | snapshot
  deriving DecidableEq, Repr

/-- A probe event with its depth (R133). -/
structure Event where
  source : ProbeId
  kind   : EventKind
  depth  : Nat
  deriving DecidableEq, Repr

/-- An action that has its cause and is not yet taken: the slot of its coupling, the target, the action and its depth (R134). -/
structure Waiting where
  slot   : SlotId
  target : ProbeId
  action : Action
  depth  : Nat
  deriving DecidableEq, Repr

/-- One coupling with its counts (R127). -/
structure Coupling where
  source : ProbeId
  event  : EventKind
  target : ProbeId
  action : Action
  fires  : BitVec 16
  misses : BitVec 16
  deriving DecidableEq, Repr

/-- The 24 slots and the cascade-cut counter (R127). -/
structure CouplingTable where
  slots      : Vector (Option Coupling) 24
  cascadeCut : BitVec 16
  deriving DecidableEq, Repr

/-! ### Reports and the Report Queue (R142, R145) -/

/-- The four flags of a probe report (R143). -/
structure ReportFlags where
  saturated : Bool
  settled   : Bool
  level     : Bool
  illegal   : Bool
  deriving DecidableEq, Repr

/-- What the five kinds of probe report carry after the header (R142). -/
inductive ReportBody where
  | window (flags : ReportFlags) (value : Sample32) (windowsDone : BitVec 24)
  | settle (flags : ReportFlags) (value : Sample32) (windowsDone : BitVec 24)
  | drift (flags : ReportFlags) (value : Sample32) (windowsDone : BitVec 24)
  | runEnd (flags : ReportFlags) (windowsDone : BitVec 24) (outcome : RunOutcome) (quadErrors : BitVec 16)
      (lastSample : Option Sample) (partialAcc : Option Accumulator)
  | snapshot (flags : ReportFlags) (value : Sample32)
  deriving DecidableEq, Repr

/-- What the qualifier step hands the probe (R114). -/
inductive QualResult where
  | neither | becameTrue | becameFalse
  deriving DecidableEq, Repr

/-- A window completion that stands between two of its offers (R149): its probe, the qualifier step's result, the reports still to offer
at step 5, and whether one of those offered was lost. -/
structure Occasion where
  probe     : ProbeId
  result    : QualResult
  remaining : List ReportBody
  lost      : Bool
  deriving DecidableEq, Repr

/-- The cause of the last reset (R163). -/
inductive ResetCause where
  | pin | request
  deriving DecidableEq, Repr

/-- A report of the queue: a probe report, or one of the two system reports (R142). -/
inductive Report where
  | probe (source : ProbeId) (generation : BitVec 8) (stamp : Tick) (lostBefore : BitVec 16) (body : ReportBody)
  | boot (cause : ResetCause)
  | stageExpired (stamp : Tick) (owner : ProbeId) (phase : Phase) (generation : BitVec 8)
  deriving DecidableEq, Repr

/-- The Report Queue (R145). The totals and waiting counts are computed from `entries` (log 14). -/
structure ReportQueue where
  entries    : List Report
  lostBefore : Vector (BitVec 16) 16
  credits    : BitVec 8
  systemLost : BitVec 16
  deriving DecidableEq, Repr

/-! ### The Line Front End (R69) -/

/-- One line (R69); `before` is its filtered level of the tick before, against which an edge is judged (R71). -/
structure Line where
  raw       : Bool
  filtered  : Bool
  before    : Bool
  selection : Fin 5
  count     : Nat
  deriving DecidableEq, Repr

/-- The lines, the thresholds of profiles 1 to 4, and two marks: `fresh` until the first step after reset (R72), and `stepped` once this
tick's step is made (the model's own, log 18). -/
structure LineFrontEnd where
  lines      : Vector Line 16
  thresholds : Vector Nat 4
  fresh      : Bool
  stepped    : Bool
  deriving DecidableEq, Repr

/-! ### The Host Link Interface -/

/-- What the byte receiver is doing (R168): watching for a fall; waiting for the middle of the start bit after the fall at a tick;
sampling the bits of a confirmed character (least significant bit first); or waiting for LRX to return high. -/
inductive BytePhase where
  | watching
  | confirming (fall : Tick)
  | receiving (fall : Tick) (bits : List Bool)
  | waitingHigh
  deriving DecidableEq, Repr

/-- The byte receiver (R168, R173): its phase, whether this tick found a character already being received (R172), the LRX level last
sampled, the tick of the fall that began the present low, whether that low is already counted as a break, and what this tick's sample
brought. -/
structure ByteReceiver where
  phase        : BytePhase
  awaited      : Bool
  level        : Bool
  lowSince     : Option Tick
  breakCounted : Bool
  delivered    : Option Byte
  discarded    : Bool
  breakDue     : Bool
  deriving DecidableEq, Repr

/-- The frame receiver with the partial frame of its state (R171). -/
inductive FrameReceiver where
  | hunt
  | length
  | body (len : Nat) (bytes : List Byte)
  | check (len : Nat) (bytes : List Byte) (low : Option Byte)
  deriving DecidableEq, Repr

/-- The seven link counters (R174). -/
structure LinkCounters where
  goodFrame   : BitVec 16
  checkError  : BitVec 16
  lengthError : BitVec 16
  gapError    : BitVec 16
  lineBreak   : BitVec 16
  busyDrop    : BitVec 16
  replay      : BitVec 16
  deriving DecidableEq, Repr

/-- The PARAM reasons (R21, R194). -/
inductive ParamReason where
  | kindUnknown | lineRange | bRequired | bNotAllowed | windowRequired | windowNotAllowed | spanRange | spanNotAllowed | minOverMax
  | qualDepthRange | qualNotAllowed | relNotAllowed | tolRange | selectRange | quotaRange | edgesRange | edgesNotAllowed
  deriving DecidableEq, Repr

/-- A failed check: its reason and the number of the field checked (R20). -/
structure ParamFault where
  reason : ParamReason
  field  : Nat
  deriving DecidableEq, Repr

/-- A refusal of a request, with the details its status carries (R195). -/
inductive Denial where
  | badKind
  | badLength
  | badProbe
  | badState (state : ProbeState)
  | badValue (field : Nat)
  | param (fault : ParamFault)
  | stageBusy (owner : ProbeId)
  | notStaging (owner : Option ProbeId)
  | badPhase (phase : Phase) (expected : Option Nat)
  | edgeOrder (edge : Nat)
  | noBoundary
  | tableFull
  | noSuchCoupling
  | duplicate (slot : SlotId)
  deriving DecidableEq, Repr

/-- The result of an accepted commit (R35). -/
inductive CommitResult where
  | installed | pending
  deriving DecidableEq, Repr

/-- What STATUS shows (R185). -/
structure StatusView where
  counters    : LinkCounters
  systemLost  : BitVec 16
  cascadeCut  : BitVec 16
  probeTotal  : Nat
  systemTotal : Nat
  credits     : BitVec 8
  staging     : Option Staging
  now         : Tick
  deriving DecidableEq, Repr

/-- A reply: a refusal, or OK with the data of its kind (R195). -/
inductive Reply where
  | denied (d : Denial)
  | status (v : StatusView)
  | deviceReset
  | credit (credits : BitVec 8) (probeTotal systemTotal : Nat)
  | time (now : Tick)
  | lineSet (line : LineId) (selection : Fin 5) (filtered : Bool)
  | lineRead (now : Tick) (lines : Vector Line 16) (thresholds : Vector Nat 4)
  | profileSet (profile : Byte) (threshold : BitVec 16) (selecting : Nat)
  | stageBegin (deadline : Tick)
  | stageParams (phase : Phase) (chunks : Nat) (deadline : Tick)
  | stageEdges (phase : Phase) (next : Option Nat) (deadline : Tick)
  | stageCommit (result : CommitResult) (generation : BitVec 8)
  | stageAbort (phase : Phase)
  | start (state : ProbeState) (tick : Tick) (generation : BitVec 8)
  | arm (state : ProbeState)
  | stop (state : ProbeState) (generation : BitVec 8)
  | probeReset (removed : Nat)
  | probeRead (pr : Probe) (waiting : Nat)
  | snapshot (acc : Accumulator) (windowsDone : BitVec 24) (quadErrors : BitVec 16) (now : Tick)
  | histRead (generation : BitVec 8) (edgeCount : Nat) (half : Byte) (now : Tick) (total : BitVec 32) (edges : List Sample32)
      (bins : List (BitVec 32))
  | histClear (generation : BitVec 8) (total : BitVec 32)
  | coupleAdd (slot : SlotId)
  | coupleRemove (c : Coupling)
  | coupleList (occupied : List (SlotId × Coupling))
  deriving DecidableEq, Repr

/-- A reply whole as it enters the reply queue (R177): its KIND and TAG, and the reply with the fields it carries, from which its DATA is
formed (R195). -/
structure Message where
  kind  : Byte
  tag   : Byte
  reply : Reply
  deriving DecidableEq, Repr

/-- An entry of the reply cache (R177); its place in the order of storage is its place in the list. -/
structure CacheEntry where
  tag   : Byte
  kind  : Byte
  reply : Message
  deriving DecidableEq, Repr

/-- A frame on LTX: its bytes from LEAD to CHECK, the tick it began, and whether it is the reply that a pending DEVICE_RESET waits for
(R184, R189). -/
structure Sending where
  bytes      : List Byte
  begun      : Tick
  resetReply : Bool
  deriving DecidableEq, Repr

/-- The Host Link Interface (R167 to R190). -/
structure HostLink where
  rs1          : Bool
  rs0          : Bool
  byteRx       : ByteReceiver
  frameRx      : FrameReceiver
  silenceFrom  : Option Tick
  replies      : List Message
  cache        : List CacheEntry
  counters     : LinkCounters
  sequence     : BitVec 8
  transmitter  : Option Sending
  resetPending : Bool
  deriving DecidableEq, Repr

/-! ### The whole part -/

/-- Whether a probe's measurement of this tick is made (the model's own, log 18): still due; still due and the first of a run that
started this tick, before the lines' step (R51); or made. -/
inductive TickMark where
  | due | first | made
  deriving DecidableEq, Repr

/-- The state of the FD16. `measured` marks the probes' measurements of this tick; `raised` holds the probe events that the Coupling Table
has not yet taken and `actions` the actions of those it has taken, oldest first (R134, R139); `occasion` is a completion between two of
its offers (R149); `schedule` settles the orders the rules leave open (the model's own, log 7, 8, 13 and 24); `pending` is the queue of
commands. -/
structure State where
  timebase : Tick
  lfe      : LineFrontEnd
  probes   : Vector Probe 16
  measured : Vector TickMark 16
  occasion : Option Occasion
  raised   : List Event
  actions  : List Waiting
  staging  : Option Staging
  cpl      : CouplingTable
  rpq      : ReportQueue
  hli      : HostLink
  schedule : List Nat
  pending  : List Instr
  deriving DecidableEq, Repr

/-- No fault: the spec names nothing that stops the FD16, and no meaning of the model raises one. -/
inductive Fault where
  deriving DecidableEq, Repr

/-- Why a command has no meaning. -/
inductive Refusal where
  /-- Raised by `exec`'s arm of a command whose meaning is not written; safe, since the model stops where the part goes on. -/
  | notModelled (mnemonic : String)
  deriving DecidableEq, Repr

/-! ### Reset values (R2, R23, R72, R78, R127, R145, R163, R190) -/

/-- A cleared accumulator (R82). -/
def Accumulator.cleared : Accumulator := { value := 0, saturated := false }

/-- A cleared Qualifier context (R2, R107). -/
def Qualifier.reset : Qualifier := { history := [], settled := false, histogram := none }

/-- The values of R2, which PROBE_RESET takes too (R63). A cleared level in progress is LOW (R82 says only that it is cleared: DESIGN
CHOICE, log 23; so it is after a commit and a run start too). -/
def Probe.reset : Probe where
  state := .free
  plan := none
  generation := 0
  armedFrom := none
  startAt := none
  runStart := none
  windowsDone := 0
  acc := .cleared
  windowOpen := false
  levelHigh := false
  edgeCount := 0
  countdown := 0
  nextBoundary := 0
  lastSample := none
  lastOutcome := none
  quadErrors := 0
  generated := 0
  transmitted := 0
  lost := 0
  qual := .reset

/-- A line after reset and before the step of tick 0, which gives it its levels (R72; the levels until then DESIGN CHOICE, log 10). -/
def Line.reset : Line where
  raw := false
  filtered := false
  before := false
  selection := 0
  count := 0

/-- The Line Front End after reset (R72). -/
def LineFrontEnd.reset : LineFrontEnd where
  lines := Vector.replicate 16 .reset
  thresholds := #v[Config.resetThreshold1, Config.resetThreshold2, Config.resetThreshold3, Config.resetThreshold4]
  fresh := true
  stepped := false

/-- An empty Coupling Table (R127). -/
def CouplingTable.reset : CouplingTable where
  slots := Vector.replicate 24 none
  cascadeCut := 0

/-- The Report Queue after reset, with the BOOT report enqueued at tick 0 (R145, R163). -/
def ReportQueue.reset (cause : ResetCause) : ReportQueue where
  entries := [.boot cause]
  lostBefore := Vector.replicate 16 0
  credits := 0
  systemLost := 0

/-- All seven link counters 0 (R174, R190). -/
def LinkCounters.reset : LinkCounters where
  goodFrame := 0
  checkError := 0
  lengthError := 0
  gapError := 0
  lineBreak := 0
  busyDrop := 0
  replay := 0

/-- The byte receiver after reset: watching for a fall, or waiting for LRX to return high first (R190; log 17). -/
def ByteReceiver.reset (lrx : Bool) : ByteReceiver where
  phase := if lrx then .watching else .waitingHigh
  awaited := false
  level := lrx
  lowSince := none
  breakCounted := false
  delivered := none
  discarded := false
  breakDue := false

/-- The Host Link Interface after reset with the straps as sampled (R167, R190). -/
def HostLink.reset (rs1 rs0 lrx : Bool) : HostLink where
  rs1 := rs1
  rs0 := rs0
  byteRx := .reset lrx
  frameRx := .hunt
  silenceFrom := none
  replies := []
  cache := []
  counters := .reset
  sequence := 0
  transmitter := none
  resetPending := false

/-- Every block at its reset values, at tick 0, with the straps and LRX as sampled and the reset's cause in the BOOT report; the
model's own inputs are given. LRX at tick 0 has the level it had at the reset. -/
def State.afterReset (rs1 rs0 lrx : Bool) (cause : ResetCause) (schedule : List Nat) (pending : List Instr) : State where
  timebase := 0
  lfe := .reset
  probes := Vector.replicate 16 .reset
  measured := Vector.replicate 16 .due
  occasion := none
  raised := []
  actions := []
  staging := none
  cpl := .reset
  rpq := .reset cause
  hli := .reset rs1 rs0 lrx
  schedule := schedule
  pending := pending

/-- The FD16 right after a pin reset, with both straps low and LRX idle high (DESIGN CHOICE, log 9) and nothing waiting. -/
def State.reset : State := State.afterReset false false true .pin [] []

end Sys2Proof.Machine
end

