-- ==== Sys2Proof/Machine/Operands.lean ====
section
/-! DEFINITION. Operands of the commands: the codes of named values (R192 to R194), probe, line and slot fields, a probe's view of a
line (R71), and the timebase's future test (R79). -/

namespace Sys2Proof.Machine

/-! ### Codes of named values -/

def Kind.ofCode (b : Byte) : Option Kind :=
  [Kind.levelTime, .highTime, .span, .count, .updown, .quad, .dropout][b.toNat]?

def Kind.code : Kind → Byte
  | .levelTime => 0 | .highTime => 1 | .span => 2 | .count => 3 | .updown => 4 | .quad => 5 | .dropout => 6

def OnSettle.ofCode (b : Byte) : Option OnSettle := [OnSettle.stop, .continue][b.toNat]?

def OnSettle.code : OnSettle → Byte
  | .stop => 0 | .continue => 1

def ReportSelect.ofCode (b : Byte) : Option ReportSelect := [ReportSelect.every, .changes, .endOnly][b.toNat]?

def ReportSelect.code : ReportSelect → Byte
  | .every => 0 | .changes => 1 | .endOnly => 2

def LossPolicy.ofCode (b : Byte) : Option LossPolicy := [LossPolicy.count, .halt][b.toNat]?

def LossPolicy.code : LossPolicy → Byte
  | .count => 0 | .halt => 1

def EventKind.ofCode (b : Byte) : Option EventKind :=
  [EventKind.runStart, .window, .settled, .drift, .runEnd][b.toNat]?

def EventKind.code : EventKind → Byte
  | .runStart => 0 | .window => 1 | .settled => 2 | .drift => 3 | .runEnd => 4

def Action.ofCode (b : Byte) : Option Action := [Action.start, .stop, .snapshot][b.toNat]?

def Action.code : Action → Byte
  | .start => 0 | .stop => 1 | .snapshot => 2

def ProbeState.code : ProbeState → Byte
  | .free => 0 | .ready => 1 | .armed => 2 | .running => 3 | .done => 4

/-- The state a cancelled wait returns to (R6, R49). -/
def RestState.toState : RestState → ProbeState
  | .ready => .ready | .done => .done

def RunOutcome.code : RunOutcome → Byte
  | .settled => 0 | .limit => 1 | .stopped => 2 | .linked => 3 | .loss => 4

def Phase.code : Phase → Byte
  | .opened => 0 | .edges => 1 | .complete => 2 | .pending => 3

def ResetCause.code : ResetCause → Byte
  | .pin => 0 | .request => 1

/-- A probe number or FFh for none (R191). -/
def ownerCode : Option ProbeId → Byte
  | some p => BitVec.ofNat 8 p.val
  | none => 0xFF

/-! ### Fields that name a part of the machine -/

/-- A probe field 0..15; any other value is BAD_PROBE (R179, R193). -/
def probeOf (b : Byte) : Option ProbeId := if h : b.toNat < 16 then some ⟨b.toNat, h⟩ else none

/-- A line number 0..15 (R73). -/
def lineOf (b : Byte) : Option LineId := if h : b.toNat < 16 then some ⟨b.toNat, h⟩ else none

/-- A profile selection 0..4 (R73). -/
def selectionOf (b : Byte) : Option (Fin 5) := if h : b.toNat < 5 then some ⟨b.toNat, h⟩ else none

/-- A profile 1..4 as the index of its threshold (R74). -/
def profileOf (b : Byte) : Option (Fin 4) :=
  if h : 1 ≤ b.toNat ∧ b.toNat ≤ 4 then some ⟨b.toNat - 1, by omega⟩ else none

/-- A slot 0..23 (R130). -/
def slotOf (b : Byte) : Option SlotId := if h : b.toNat < 24 then some ⟨b.toNat, h⟩ else none

/-! ### Kinds and plans -/

/-- The edge-defined kinds, which have an open field (R7). -/
def Kind.edgeDefined : Kind → Bool
  | .levelTime | .highTime | .span => true
  | .count | .updown | .quad | .dropout => false

/-- The counting kinds (R14, R50). -/
def Kind.counting : Kind → Bool
  | .count | .updown | .quad => true
  | .levelTime | .highTime | .span | .dropout => false

/-- A counting plan with window 0 (R14). -/
def Plan.continuous (pl : Plan) : Bool := pl.kind.counting && pl.window == 0

/-- The phase of a held stage (R23). -/
def Stage.phase : Stage → Phase
  | .opened _ _ => .opened
  | .edges _ _ _ _ _ => .edges
  | .complete _ _ _ _ => .complete
  | .pending _ _ => .pending

/-- The chunk expected in EDGES, none in the other phases (R23). -/
def Stage.expectedChunk : Stage → Option Nat
  | .edges _ _ _ _ k => some k
  | .opened _ _ | .complete _ _ _ _ | .pending _ _ => none

/-- The lease deadline, absent in PENDING (R23). -/
def Stage.deadline : Stage → Option Tick
  | .opened _ d => some d
  | .edges _ d _ _ _ => some d
  | .complete _ d _ _ => some d
  | .pending _ _ => none

/-! ### A probe's view of a line (R71, R81) -/

/-- A line's filtered level at this tick and at the tick before, both after the plan's inversion. -/
structure View where
  now    : Bool
  before : Bool
  deriving DecidableEq, Repr

/-- The view of a line under an inversion (R12, R71). -/
def Line.view (l : Line) (invert : Bool) : View := { now := l.filtered ^^ invert, before := l.before ^^ invert }

def View.rising (v : View) : Bool := v.now && !v.before

def View.falling (v : View) : Bool := !v.now && v.before

/-- An edge of either direction (R71). -/
def View.edge (v : View) : Bool := v.now != v.before

/-- The view of line A under a plan. -/
def Plan.viewA (pl : Plan) (lines : Vector Line 16) : View := (lines[pl.lineA.val]).view pl.invertA

/-- The view of line B under a plan, absent when the plan has none. -/
def Plan.viewB (pl : Plan) (lines : Vector Line 16) : Option View := pl.lineB.map fun b => (lines[b.val]).view pl.invertB

/-! ### Ticks -/

/-- The future test of R79: T lies in the future of `now`. -/
def isFuture (t now : Tick) : Bool := decide (1 ≤ (t - now).toNat ∧ (t - now).toNat ≤ 2 ^ 47 - 1)

/-- Ticks from one tick to a later one, modulo 2^48 (R78). -/
def ticksSince (now since : Tick) : Nat := (now - since).toNat

end Sys2Proof.Machine
end

