-- ==== Sys2Proof/Machine/Flags.lean ====
section
/-! DEFINITION. Saturating counters (Conventions; R84), the accumulator's saturation (R104, R105), and every flag the spec computes:
the flags of samples and reports (R106, R143) and their bytes (R195, R196). -/

namespace Sys2Proof.Machine

/-- A saturating counter stops at its maximum. -/
def satInc {w : Nat} (x : BitVec w) : BitVec w := if x = BitVec.allOnes w then x else x + 1

/-- A saturating counter increased `n` times. -/
def satAdd {w : Nat} (x : BitVec w) (n : Nat) : BitVec w := BitVec.ofNat w (min (x.toNat + n) (2 ^ w - 1))

/-- The upper limit 7FFFFFFFh and the lower limit −2147483648 of an accumulator (R84). -/
def accMax : Sample32 := 0x7FFFFFFF#32
def accMin : Sample32 := 0x80000000#32

/-- One step up: a saturated accumulator stays at its limit; the flag is set at the tick the limit is reached (R84, R104). -/
def Accumulator.inc (a : Accumulator) : Accumulator :=
  if a.saturated then a
  else if a.value = accMax then { a with saturated := true }
  else { value := a.value + 1, saturated := a.value + 1 == accMax }

/-- One step down, for the signed counts (R84, R105). -/
def Accumulator.dec (a : Accumulator) : Accumulator :=
  if a.saturated then a
  else if a.value = accMin then { a with saturated := true }
  else { value := a.value - 1, saturated := a.value - 1 == accMin }

/-- The illegal-steps-present flag of a QUAD probe (R96). -/
def illegalSteps (pl : Plan) (quadErrors : BitVec 16) : Bool := pl.kind == .quad && quadErrors != 0

/-- The flags of a WINDOW, SETTLE or DRIFT report (R143). -/
def sampleFlags (pl : Plan) (pr : Probe) (smp : Sample) : ReportFlags where
  saturated := smp.saturated
  settled := pr.qual.settled
  level := smp.level
  illegal := illegalSteps pl pr.quadErrors

/-- The flags of an END report: saturated and level are clear (R143, R196). -/
def endFlags (pl : Plan) (pr : Probe) : ReportFlags where
  saturated := false
  settled := pr.qual.settled
  level := false
  illegal := illegalSteps pl pr.quadErrors

/-- The flags of a SNAPSHOT report: settled is clear (R143). -/
def snapshotFlags (pl : Plan) (pr : Probe) : ReportFlags where
  saturated := pr.acc.saturated
  settled := false
  level := false
  illegal := illegalSteps pl pr.quadErrors

/-- A byte from flag bits, bit 0 first; the bits left over are reserved and 0 (R191). -/
def flagByte : List Bool → Nat
  | [] => 0
  | b :: bs => b.toNat + 2 * flagByte bs

/-- The flag byte of a report header (R196). -/
def ReportFlags.byte (f : ReportFlags) : Byte := BitVec.ofNat 8 (flagByte [f.saturated, f.settled, f.level, f.illegal])

/-- The flag byte of a sample: saturated, level (R195, R196). -/
def Sample.flagsByte (s : Sample) : Byte := BitVec.ofNat 8 (flagByte [s.saturated, s.level])

/-- The flag byte of an accumulator (R195, R196). -/
def Accumulator.flagsByte (a : Accumulator) : Byte := BitVec.ofNat 8 (flagByte [a.saturated])

/-- yes/no and high/low as a byte of their own (R191). -/
def boolByte (b : Bool) : Byte := if b then 1 else 0

end Sys2Proof.Machine
end

