-- ==== Sys2Proof/Machine/Plans.lean ====
section
/-! DEFINITION. Validation of a plan record (R20 to R22) and the record of a committed plan (R194). -/

namespace Sys2Proof.Machine

/-- The codes of the PARAM reasons (R194). -/
def ParamReason.code : ParamReason → Byte
  | .kindUnknown => 0x01 | .lineRange => 0x02 | .bRequired => 0x03 | .bNotAllowed => 0x04 | .windowRequired => 0x05
  | .windowNotAllowed => 0x06 | .spanRange => 0x07 | .spanNotAllowed => 0x08 | .minOverMax => 0x09 | .qualDepthRange => 0x0A
  | .qualNotAllowed => 0x0B | .relNotAllowed => 0x0C | .tolRange => 0x0D | .selectRange => 0x0E | .quotaRange => 0x0F
  | .edgesRange => 0x10 | .edgesNotAllowed => 0x11

/-- bit 0 invert_a, bit 1 invert_b, bit 2 tol_kind (R194). -/
def recordInvertA (r : PlanRecord) : Bool := r.flags.getLsbD 0
def recordInvertB (r : PlanRecord) : Bool := r.flags.getLsbD 1
def recordTolKind (r : PlanRecord) : TolKind := if r.flags.getLsbD 2 then .rel else .abs

/-- The twenty checks of R21 in order; the first that fails gives the reason and the field, and a record that passes them all gives
the plan. With line_b absent, invert_b is kept as sent (R194). -/
def validate (r : PlanRecord) : Except ParamFault Plan :=
  match Kind.ofCode r.kind with
  | none => .error { reason := .kindUnknown, field := 1 }
  | some k =>
    match lineOf r.lineA with
    | none => .error { reason := .lineRange, field := 2 }
    | some a =>
      let bAbsent := r.lineB == 0xFF
      let continuous := k.counting && r.window == 0
      let tolKind := recordTolKind r
      if !bAbsent && (lineOf r.lineB).isNone then .error { reason := .lineRange, field := 4 }
      else if bAbsent && (k == .updown || k == .quad) then .error { reason := .bRequired, field := 4 }
      else if !bAbsent && (k.edgeDefined || k == .dropout) then .error { reason := .bNotAllowed, field := 4 }
      else if k == .dropout && r.window == 0 then .error { reason := .windowRequired, field := 6 }
      else if k.edgeDefined && r.window != 0 then .error { reason := .windowNotAllowed, field := 6 }
      else if k == .span && r.span == 0 then .error { reason := .spanRange, field := 7 }
      else if k != .span && r.span != 0 then .error { reason := .spanNotAllowed, field := 7 }
      else if r.maxWindows != 0 && decide (r.maxWindows.toNat < r.minWindows.toNat) then .error { reason := .minOverMax, field := 9 }
      else if r.qualDepth == 1 || decide (8 < r.qualDepth.toNat) then .error { reason := .qualDepthRange, field := 10 }
      else if r.qualDepth != 0 && (continuous || k == .dropout) then .error { reason := .qualNotAllowed, field := 10 }
      else if tolKind == .rel && (k == .updown || k == .quad) then .error { reason := .relNotAllowed, field := 11 }
      else if (tolKind == .abs && decide (16777215 < r.tol.toNat)) || (tolKind == .rel && decide (65535 < r.tol.toNat)) then
        .error { reason := .tolRange, field := 12 }
      else
        match OnSettle.ofCode r.onSettle with
        | none => .error { reason := .selectRange, field := 13 }
        | some onSettle =>
          match ReportSelect.ofCode r.reportSelect with
          | none => .error { reason := .selectRange, field := 14 }
          | some select =>
            if r.quota == 0 || decide (32 < r.quota.toNat) then .error { reason := .quotaRange, field := 15 }
            else
              match LossPolicy.ofCode r.lossPolicy with
              | none => .error { reason := .selectRange, field := 16 }
              | some loss =>
                if 31 < r.edgeCount.toNat then .error { reason := .edgesRange, field := 17 }
                else if r.edgeCount != 0 && continuous then .error { reason := .edgesNotAllowed, field := 17 }
                else
                  .ok
                    { kind := k
                      lineA := a
                      invertA := recordInvertA r
                      lineB := if bAbsent then none else lineOf r.lineB
                      invertB := recordInvertB r
                      window := r.window
                      span := r.span
                      maxWindows := r.maxWindows
                      minWindows := r.minWindows
                      qualDepth := r.qualDepth.toNat
                      tolKind := tolKind
                      tol := r.tol
                      onSettle := onSettle
                      reportSelect := select
                      quota := r.quota.toNat
                      lossPolicy := loss
                      edgeCount := r.edgeCount.toNat }

/-- The record of a plan, reserved bits 0 (R191, R194). -/
def Plan.record (pl : Plan) : PlanRecord where
  kind := pl.kind.code
  lineA := BitVec.ofNat 8 pl.lineA.val
  lineB := match pl.lineB with
    | some b => BitVec.ofNat 8 b.val
    | none => 0xFF
  flags := BitVec.ofNat 8 (flagByte [pl.invertA, pl.invertB, pl.tolKind == .rel])
  window := pl.window
  span := pl.span
  maxWindows := pl.maxWindows
  minWindows := pl.minWindows
  qualDepth := BitVec.ofNat 8 pl.qualDepth
  tol := pl.tol
  onSettle := pl.onSettle.code
  reportSelect := pl.reportSelect.code
  quota := BitVec.ofNat 8 pl.quota
  lossPolicy := pl.lossPolicy.code
  edgeCount := BitVec.ofNat 8 pl.edgeCount

/-- The edge chunks a plan requires: edge_count divided by 8, rounded up (R32). -/
def Plan.chunks (pl : Plan) : Nat := (pl.edgeCount + 7) / 8

/-- The number of edges in chunk `k` of the plan (R32). -/
def Plan.chunkEdges (pl : Plan) (k : Nat) : Nat := min 8 (pl.edgeCount - 8 * k)

end Sys2Proof.Machine
end

