-- ==== Sys2Proof/Machine/Layouts.lean ====
section
/-! DEFINITION. The bytes of every reply (R195) and of every report (R196). -/

namespace Sys2Proof.Machine

/-- A tick in six bytes (R191). -/
def tickBytes (t : Tick) : List Byte := leBytes 6 t.toNat

/-- A field of six bytes that may be absent: its bytes are then 0 (R191). -/
def optTickBytes (t : Option Tick) : List Byte := tickBytes (t.getD 0)

/-- The status byte and details of a refusal (R195). -/
def Denial.bytes : Denial → List Byte
  | .badKind => [0x01]
  | .badLength => [0x02]
  | .badProbe => [0x03]
  | .badState st => [0x04, st.code]
  | .badValue n => [0x05, BitVec.ofNat 8 n]
  | .param f => [0x06, f.reason.code, BitVec.ofNat 8 f.field]
  | .stageBusy p => [0x07, ownerCode (some p)]
  | .notStaging p => [0x08, ownerCode p]
  | .badPhase ph k => [0x09, ph.code, (k.map (BitVec.ofNat 8)).getD 0xFF]
  | .edgeOrder n => [0x0A, BitVec.ofNat 8 n]
  | .noBoundary => [0x0B]
  | .tableFull => [0x0C]
  | .noSuchCoupling => [0x0D]
  | .duplicate slot => [0x0E, BitVec.ofNat 8 slot.val]

/-- The nine counters of STATUS and what follows them, offsets 1 to 29 (R195). -/
def StatusView.bytes (v : StatusView) : List Byte :=
  leBytes 2 v.counters.goodFrame.toNat ++ leBytes 2 v.counters.checkError.toNat ++ leBytes 2 v.counters.lengthError.toNat
    ++ leBytes 2 v.counters.gapError.toNat ++ leBytes 2 v.counters.lineBreak.toNat ++ leBytes 2 v.counters.busyDrop.toNat
    ++ leBytes 2 v.counters.replay.toNat ++ leBytes 2 v.systemLost.toNat ++ leBytes 2 v.cascadeCut.toNat
    ++ [BitVec.ofNat 8 v.probeTotal, BitVec.ofNat 8 v.systemTotal, v.credits,
        ownerCode (v.staging.map (·.owner)), (v.staging.map (·.stage.phase.code)).getD 0xFF]
    ++ tickBytes v.now

/-- The accumulator is shown in RUNNING and DONE (R3, R7). -/
def Probe.accShown (pr : Probe) : Bool := pr.state == .running || pr.state == .done

/-- open is shown in RUNNING and DONE for the edge-defined kinds (R3, R7). -/
def Probe.openShown (pr : Probe) : Bool := pr.accShown && (pr.plan.any (·.kind.edgeDefined))

/-- The presence byte of PROBE_READ (R195). -/
def Probe.presence (pr : Probe) : Byte :=
  BitVec.ofNat 8 (flagByte [pr.armedFrom.isSome, pr.startAt.isSome, pr.runStart.isSome, pr.lastSample.isSome, pr.lastOutcome.isSome,
    pr.accShown, pr.openShown])

/-- The data of a PROBE_READ reply after the status byte: the state alone in FREE, the record otherwise (R9, R195). An absent field's
bytes are 0. -/
def Probe.readBytes (pr : Probe) (waiting : Nat) : List Byte :=
  match pr.plan with
  | none => [pr.state.code]
  | some pl =>
    if pr.state = .free then [pr.state.code]
    else
      let acc := if pr.accShown then pr.acc else .cleared
      let smp := pr.lastSample.getD { value := 0, saturated := false, level := false }
      [pr.state.code] ++ pl.record.bytes
        ++ [pr.generation, pr.presence, ((pr.armedFrom.map (·.toState.code)).getD 0)]
        ++ optTickBytes pr.startAt ++ optTickBytes pr.runStart
        ++ leBytes 3 pr.windowsDone.toNat
        ++ leBytes 4 acc.value.toNat ++ [acc.flagsByte, boolByte (pr.openShown && pr.windowOpen)]
        ++ leBytes 4 smp.value.toNat ++ [smp.flagsByte, ((pr.lastOutcome.map (·.code)).getD 0)]
        ++ leBytes 2 pr.quadErrors.toNat
        ++ leBytes 4 pr.generated.toNat ++ leBytes 4 pr.transmitted.toNat ++ leBytes 4 pr.lost.toNat
        ++ [BitVec.ofNat 8 waiting, boolByte pr.qual.settled, BitVec.ofNat 8 pr.qual.history.length]
        ++ edgeBytes pr.qual.history

/-- The nine bytes of a listed coupling after its slot, and of COUPLE_REMOVE's reply (R195). -/
def Coupling.bytes (c : Coupling) : List Byte :=
  [BitVec.ofNat 8 c.source.val, c.event.code, BitVec.ofNat 8 c.target.val, c.action.code]
    ++ leBytes 2 c.fires.toNat ++ leBytes 2 c.misses.toNat

/-- The levels of the sixteen lines as two bytes, bit i for IN i (R195). -/
def levelBytes (levels : List Bool) : List Byte := leBytes 2 (flagByte levels)

/-- DATA of a reply: the whole of a refusal, or the status byte and the kind's data (R195). The reply to STOP holds the generation
that R198 names; its DATA is the two bytes of R195's table, since R169, R181 and R49 leave no other (DEDUCED, log 25). -/
def Reply.data : Reply → List Byte
  | .denied d => d.bytes
  | .status v => 0x00 :: v.bytes
  | .deviceReset => [0x00]
  | .credit c p n => [0x00, c, BitVec.ofNat 8 p, BitVec.ofNat 8 n]
  | .time t => 0x00 :: tickBytes t
  | .lineSet l sel f => [0x00, BitVec.ofNat 8 l.val, BitVec.ofNat 8 sel.val, boolByte f]
  | .lineRead t lines thresholds =>
    [0x00] ++ tickBytes t ++ levelBytes (lines.toList.map (·.raw)) ++ levelBytes (lines.toList.map (·.filtered))
      ++ lines.toList.map (fun l => BitVec.ofNat 8 l.selection.val) ++ thresholds.toList.flatMap (leBytes 2)
  | .profileSet p t n => [0x00, p] ++ leBytes 2 t.toNat ++ [BitVec.ofNat 8 n]
  | .stageBegin d => 0x00 :: tickBytes d
  | .stageParams ph n d => [0x00, ph.code, BitVec.ofNat 8 n] ++ tickBytes d
  | .stageEdges ph k d => [0x00, ph.code, (k.map (BitVec.ofNat 8)).getD 0xFF] ++ tickBytes d
  | .stageCommit .installed g => [0x00, 0x00, g]
  | .stageCommit .pending g => [0x00, 0x01, g]
  | .stageAbort ph => [0x00, ph.code]
  | .start st t g => [0x00, st.code] ++ tickBytes t ++ [g]
  | .arm st => [0x00, st.code]
  | .stop st _ => [0x00, st.code]
  | .probeReset n => [0x00, BitVec.ofNat 8 n]
  | .probeRead pr w => 0x00 :: pr.readBytes w
  | .snapshot a wd q t =>
    [0x00] ++ leBytes 4 a.value.toNat ++ [a.flagsByte] ++ leBytes 3 wd.toNat ++ leBytes 2 q.toNat ++ tickBytes t
  | .histRead g n half t total es bs =>
    [0x00, g, BitVec.ofNat 8 n, half] ++ tickBytes t ++ leBytes 4 total.toNat ++ edgeBytes es ++ edgeBytes bs
  | .histClear g total => [0x00, g] ++ leBytes 4 total.toNat
  | .coupleAdd slot => [0x00, BitVec.ofNat 8 slot.val]
  | .coupleRemove c => 0x00 :: c.bytes
  | .coupleList occ => [0x00, BitVec.ofNat 8 occ.length] ++ occ.flatMap (fun sc => BitVec.ofNat 8 sc.1.val :: sc.2.bytes)

/-- DATA of a waiting reply (R181). -/
def Message.data (m : Message) : List Byte := m.reply.data

/-- The report kinds of R192. -/
def Report.kind : Report → Byte
  | .probe _ _ _ _ (.window _ _ _) => 0x60
  | .probe _ _ _ _ (.settle _ _ _) => 0x61
  | .probe _ _ _ _ (.drift _ _ _) => 0x62
  | .probe _ _ _ _ (.runEnd _ _ _ _ _ _) => 0x63
  | .probe _ _ _ _ (.snapshot _ _) => 0x64
  | .boot _ => 0x65
  | .stageExpired _ _ _ _ => 0x66

/-- The flags of a probe report's header (R196). -/
def ReportBody.flags : ReportBody → ReportFlags
  | .window f _ _ => f
  | .settle f _ _ => f
  | .drift f _ _ => f
  | .runEnd f _ _ _ _ _ => f
  | .snapshot f _ => f

/-- What follows the header of a probe report (R196); an absent part's bytes are 0. -/
def ReportBody.bytes : ReportBody → List Byte
  | .window _ v wd => leBytes 4 v.toNat ++ leBytes 3 wd.toNat
  | .settle _ v wd => leBytes 4 v.toNat ++ leBytes 3 wd.toNat
  | .drift _ v wd => leBytes 4 v.toNat ++ leBytes 3 wd.toNat
  | .runEnd _ wd o q smp acc =>
    let s := smp.getD { value := 0, saturated := false, level := false }
    let a := acc.getD .cleared
    leBytes 3 wd.toNat ++ [o.code] ++ leBytes 2 q.toNat ++ [BitVec.ofNat 8 (flagByte [smp.isSome, acc.isSome])]
      ++ leBytes 4 s.value.toNat ++ [s.flagsByte] ++ leBytes 4 a.value.toNat ++ [a.flagsByte]
  | .snapshot _ v => leBytes 4 v.toNat

/-- DATA of a report frame (R196). -/
def Report.data : Report → List Byte
  | .probe p g stamp lb body =>
    [BitVec.ofNat 8 p.val, g] ++ tickBytes stamp ++ leBytes 2 lb.toNat ++ [body.flags.byte] ++ body.bytes
  | .boot cause =>
    [0xFF] ++ tickBytes 0
      ++ [cause.code, Config.revisionCode, BitVec.ofNat 8 Config.probeCount, BitVec.ofNat 8 Config.lineCount,
          BitVec.ofNat 8 Config.queueEntries, BitVec.ofNat 8 Config.couplingCount]
  | .stageExpired stamp p ph g => [0xFF] ++ tickBytes stamp ++ [BitVec.ofNat 8 p.val, ph.code, g]

/-- The probe a report is of; none for a system report (R142). -/
def Report.source : Report → Option ProbeId
  | .probe p _ _ _ _ => some p
  | .boot _ | .stageExpired _ _ _ _ => none

/-- The stamp of a report (R142); BOOT's is 0 (R163). -/
def Report.stamp : Report → Tick
  | .probe _ _ t _ _ => t
  | .boot _ => 0
  | .stageExpired t _ _ _ => t

end Sys2Proof.Machine
end

