-- ==== Sys2Proof/Machine/Link.lean ====
section
/-! DEFINITION. The serial link: rate (R167), the check (R170), frames (R169, R184), the level of LTX, and the byte receiver's sampling
of LRX (R168, R173). -/

namespace Sys2Proof.Machine

/-- The divisor D the straps choose (R167). -/
def HostLink.divisor (h : HostLink) : Nat :=
  match h.rs1, h.rs0 with
  | false, false => 1
  | false, true => 4
  | true, false => 16
  | true, true => 64

/-- One bit time and one byte time, in ticks (R167). -/
def HostLink.bitTime (h : HostLink) : Nat := 16 * h.divisor
def HostLink.byteTime (h : HostLink) : Nat := 160 * h.divisor

/-- The silence limit and the break length, in ticks (R167, R172, R173). -/
def HostLink.silenceLimit (h : HostLink) : Nat := 2560 * h.divisor
def HostLink.breakLength (h : HostLink) : Nat := 320 * h.divisor

/-- One bit taken into the check register (R170). -/
def crcBit (reg : BitVec 16) (bit : Bool) : BitVec 16 :=
  if bit == reg.getLsbD 15 then reg <<< 1 else (reg <<< 1) ^^^ 0x1021#16

/-- One byte taken into the check register, most significant bit first (R170). -/
def crcByte (reg : BitVec 16) (b : Byte) : BitVec 16 :=
  [7, 6, 5, 4, 3, 2, 1, 0].foldl (fun r i => crcBit r (b.getLsbD i)) reg

/-- The check over LEN, KIND, TAG and DATA (R170). -/
def crc (bytes : List Byte) : BitVec 16 := bytes.foldl crcByte 0xFFFF#16

/-- A frame from LEAD to CHECK, low byte of the check first (R169, R170). -/
def frameBytes (kind tag : Byte) (data : List Byte) : List Byte :=
  let covered := BitVec.ofNat 8 (data.length + 2) :: kind :: tag :: data
  Config.leadByte :: covered ++ leBytes 2 (crc covered).toNat

/-- The frame of a reply (R181). -/
def Message.frame (m : Message) : List Byte := frameBytes m.kind m.tag m.data

/-- The line time of a frame: (LEN+4) x 160 x D ticks, ten bit times for each of its bytes (R184). -/
def HostLink.frameTicks (h : HostLink) (f : Sending) : Nat := f.bytes.length * h.byteTime

/-- The stop bit of the frame's last byte has ended (R184). -/
def HostLink.frameOver (h : HostLink) (now : Tick) (f : Sending) : Bool := decide (h.frameTicks f ≤ ticksSince now f.begun)

/-- The level of one bit time of a character: start bit low, data least significant first, stop bit high (R168). -/
def characterLevel (b : Byte) (bit : Nat) : Bool :=
  if bit = 0 then false else if bit ≤ 8 then b.getLsbD (bit - 1) else true

/-- The level of LTX: high while the transmitter is free, and otherwise the frame's bit of this tick (R168, R183, R184). -/
def State.ltx (s : State) : Bool :=
  match s.hli.transmitter with
  | none => true
  | some f =>
    let bit := ticksSince s.timebase f.begun / s.hli.bitTime
    match f.bytes[bit / 10]? with
    | none => true
    | some b => characterLevel b (bit % 10)

/-! ### The byte receiver (R168, R173) -/

/-- The tick of sample `n` of a character after the fall: the middle of its bit time, 0 the start bit, 9 the stop bit (R168). -/
def sampleDue (bitTime : Nat) (now fall : Tick) (n : Nat) : Bool := ticksSince now fall == bitTime / 2 + bitTime * n

/-- The byte of eight sampled data bits, least significant first (R168). -/
def byteOfBits (bits : List Bool) : Byte := BitVec.ofNat 8 (flagByte bits)

/-- What the byte receiver's phase becomes at a tick whose LRX level is `lrx`, and whether a byte is delivered or a character discarded
there (R168). -/
structure Sampled where
  phase     : BytePhase
  delivered : Option Byte
  discarded : Bool
  deriving DecidableEq, Repr

/-- One tick of the byte receiver's phase (R168). -/
def sampleCharacter (bitTime : Nat) (now : Tick) (lrx wasHigh : Bool) : BytePhase → Sampled
  | .waitingHigh => { phase := if lrx then .watching else .waitingHigh, delivered := none, discarded := false }
  | .watching => { phase := if wasHigh && !lrx then .confirming now else .watching, delivered := none, discarded := false }
  | .confirming fall =>
    if sampleDue bitTime now fall 0 then
      { phase := if lrx then .watching else .receiving fall [], delivered := none, discarded := false }
    else { phase := .confirming fall, delivered := none, discarded := false }
  | .receiving fall bits =>
    if sampleDue bitTime now fall (bits.length + 1) then
      if bits.length < 8 then { phase := .receiving fall (bits ++ [lrx]), delivered := none, discarded := false }
      else if lrx then { phase := .watching, delivered := some (byteOfBits bits), discarded := false }
      else { phase := .waitingHigh, delivered := none, discarded := true }
    else { phase := .receiving fall bits, delivered := none, discarded := false }

/-- A character is being received: its start bit is confirmed and its stop bit not yet sampled (R172). -/
def BytePhase.inCharacter : BytePhase → Bool
  | .receiving _ _ => true
  | .watching | .confirming _ | .waitingHigh => false

/-- The byte receiver samples LRX at a tick: it follows the line for characters (R168) and for the length of a low (R173). A character
whose start bit was confirmed before this tick is awaited at it, even when its stop bit is sampled at it (R172). -/
def ByteReceiver.sample (bitTime breakLength : Nat) (now : Tick) (lrx : Bool) (rx : ByteReceiver) : ByteReceiver :=
  let c := sampleCharacter bitTime now lrx rx.level rx.phase
  let lowSince := if lrx then none else if rx.level then some now else rx.lowSince
  let breakCounted := rx.breakCounted && !lrx
  { phase := c.phase
    awaited := rx.phase.inCharacter
    level := lrx
    lowSince := lowSince
    breakCounted := breakCounted
    delivered := c.delivered
    discarded := c.discarded
    breakDue := !breakCounted && lowSince.any (fun fall => decide (breakLength ≤ ticksSince now fall)) }

end Sys2Proof.Machine
end

