-- ==== Sys2Proof/Machine/Ops.lean ====
section
/-! DEFINITION. The named operations over the blocks of State: reading and writing one block or one probe, the schedule, the Report
Queue (R145 to R160), the staging buffer's release, and a reply's entry into the reply queue and cache (R177, R182). -/

namespace Sys2Proof.Machine

/-! ### Reading and writing one part of State -/

/-- Probe `p`'s record. -/
def State.probe (s : State) (p : ProbeId) : Probe := s.probes[p.val]

def State.setProbe (s : State) (p : ProbeId) (pr : Probe) : State := { s with probes := s.probes.set p.val pr p.isLt }

def State.setMark (s : State) (p : ProbeId) (m : TickMark) : State := { s with measured := s.measured.set p.val m p.isLt }

def State.mark (s : State) (p : ProbeId) : TickMark := s.measured[p.val]

def State.setTimebase (s : State) (t : Tick) : State := { s with timebase := t }

def State.setLfe (s : State) (x : LineFrontEnd) : State := { s with lfe := x }

def State.setStaging (s : State) (x : Option Staging) : State := { s with staging := x }

def State.setCpl (s : State) (x : CouplingTable) : State := { s with cpl := x }

def State.setRpq (s : State) (x : ReportQueue) : State := { s with rpq := x }

def State.setHli (s : State) (x : HostLink) : State := { s with hli := x }

def State.setSchedule (s : State) (x : List Nat) : State := { s with schedule := x }

def State.setOccasion (s : State) (x : Option Occasion) : State := { s with occasion := x }

def State.setRaised (s : State) (x : List Event) : State := { s with raised := x }

def State.setActions (s : State) (x : List Waiting) : State := { s with actions := x }

/-- Probe events are raised, behind those raised before (R133). -/
def State.raise (s : State) (es : List Event) : State := s.setRaised (s.raised ++ es)

/-! ### The schedule: orders the rules leave open (R65, R138, R139, R149, R183, and inputs that no command brings; log 7, 8, 13 and 24) -/

/-- A choice among `n` possibilities and the state with the choice used up. A single possibility uses none; an exhausted schedule
answers the first. -/
structure Choice where
  index : Nat
  state : State

def State.choose (s : State) (n : Nat) : Choice :=
  if n ≤ 1 then { index := 0, state := s }
  else
    match s.schedule with
    | [] => { index := 0, state := s }
    | c :: cs => { index := c % n, state := s.setSchedule cs }

/-! ### The Report Queue -/

/-- The report is of probe `p`. -/
def Report.isOf (p : ProbeId) (r : Report) : Bool := r.source == some p

/-- The number of probe reports waiting (R145). -/
def ReportQueue.probeTotal (q : ReportQueue) : Nat := q.entries.countP (fun r => r.source.isSome)

/-- The number of system reports waiting (R145). -/
def ReportQueue.systemTotal (q : ReportQueue) : Nat := q.entries.countP (fun r => r.source.isNone)

/-- The number of probe `p`'s reports waiting (R145). -/
def ReportQueue.waiting (q : ReportQueue) (p : ProbeId) : Nat := q.entries.countP (Report.isOf p)

/-- The level of the RQ pin: a report waits and credits are above 0 (R162, R197). -/
def State.rq (s : State) : Bool := !s.rpq.entries.isEmpty && s.rpq.credits != 0

/-- The transmitter may take a report: it is free, no reply waits, credits are above 0 and a report waits (R160, R183). -/
def State.canDequeue (s : State) : Bool :=
  s.hli.transmitter.isNone && s.hli.replies.isEmpty && s.rpq.credits != 0 && !s.rpq.entries.isEmpty

/-- The oldest report leaves the queue and its frame begins (R160). -/
def State.dequeue (s : State) : State :=
  match s.rpq.entries with
  | [] => s
  | r :: rest =>
    let frame : Sending :=
      { bytes := frameBytes r.kind s.hli.sequence r.data, begun := s.timebase, resetReply := false }
    let s1 := (s.setRpq { s.rpq with entries := rest, credits := s.rpq.credits - 1 }).setHli
      { s.hli with transmitter := some frame, sequence := s.hli.sequence + 1 }
    match r.source with
    | none => s1
    | some p => s1.setProbe p { s.probe p with transmitted := (s.probe p).transmitted + 1 }

/-- A dequeue that may come at this point of an operation, before an offer (R149) or before a reply enters its queue (R183): the
schedule says whether it does (log 8). -/
def State.raceDequeue (s : State) : State :=
  if s.canDequeue then
    let c := s.choose 2
    if c.index = 1 then c.state.dequeue else c.state
  else s

/-- The state after a report was offered, and whether the queue lost it. -/
structure Offered where
  state : State
  lost  : Bool

/-- A probe report's room: the probe share, and the quota of the plan committed now (R147, R151). -/
def State.hasRoom (s : State) (p : ProbeId) : Bool :=
  decide (s.rpq.probeTotal < Config.probeShare ∧ s.rpq.waiting p < ((s.probe p).plan.map (·.quota)).getD 0)

/-- A probe report is appended with the probe's lost_before, which becomes 0 (R147). -/
def State.enqueueReport (s : State) (p : ProbeId) (body : ReportBody) : State :=
  let q := s.rpq
  let r := Report.probe p (s.probe p).generation s.timebase q.lostBefore[p.val] body
  s.setRpq { q with entries := q.entries ++ [r], lostBefore := q.lostBefore.set p.val 0 p.isLt }

/-- A probe report is discarded and counted (R148). -/
def State.loseReport (s : State) (p : ProbeId) : State :=
  let q := s.rpq
  (s.setRpq { q with lostBefore := q.lostBefore.set p.val (satInc q.lostBefore[p.val]) p.isLt }).setProbe p
    { s.probe p with lost := (s.probe p).lost + 1 }

/-- A probe report is generated (R144) and offered: enqueued or lost at once (R147, R148). -/
def State.generate (s : State) (p : ProbeId) (body : ReportBody) : Offered :=
  let s0 := s.raceDequeue
  let s1 := s0.setProbe p { s0.probe p with generated := (s0.probe p).generated + 1 }
  if s1.hasRoom p then { state := s1.enqueueReport p body, lost := false }
  else { state := s1.loseReport p, lost := true }

/-- A system report is offered (R152). -/
def State.offerSystem (s : State) (r : Report) : State :=
  if s.rpq.systemTotal < Config.systemShare then s.setRpq { s.rpq with entries := s.rpq.entries ++ [r] }
  else s.setRpq { s.rpq with systemLost := satInc s.rpq.systemLost }

/-- Probe `p`'s waiting reports are removed and its lost_before cleared (R155). -/
def State.purge (s : State) (p : ProbeId) : State :=
  let q := s.rpq
  s.setRpq { q with entries := q.entries.filter (fun r => !Report.isOf p r), lostBefore := q.lostBefore.set p.val 0 p.isLt }

/-! ### The staging buffer -/

/-- The staging buffer is held for `p` (R24). -/
def State.owns (s : State) (p : ProbeId) : Bool := s.staging.any (fun st => st.owner == p)

/-- The buffer is released if `p` holds it (R43). -/
def State.releaseOf (s : State) (p : ProbeId) : State := if s.owns p then s.setStaging none else s

/-! ### Replies -/

/-- KIND of the reply to a frame: its KIND with the top bit set (R181, R192). -/
def replyKind (kind : Byte) : Byte := kind ||| 0x80#8

/-- The cache with a reply stored (R177): an entry of the same tag is replaced, else the oldest of four, and the new one is newest. -/
def storeReply (cache : List CacheEntry) (e : CacheEntry) : List CacheEntry :=
  let others := cache.filter (fun c => c.tag != e.tag)
  (if others.length < Config.replyCacheSize then others else others.drop 1) ++ [e]

/-- A reply enters the reply queue, and the cache when its tag is not 0 (R177, R182). -/
def State.enterReply (s : State) (kind tag : Byte) (r : Reply) : State :=
  let m : Message := { kind := replyKind kind, tag := tag, reply := r }
  s.setHli
    { s.hli with
      replies := s.hli.replies ++ [m]
      cache := if tag = 0 then s.hli.cache else storeReply s.hli.cache { tag := tag, kind := kind, reply := m } }

/-- One link counter increased (R174). -/
def State.countLink (s : State) (f : LinkCounters → LinkCounters) : State :=
  s.setHli { s.hli with counters := f s.hli.counters }

end Sys2Proof.Machine
end

