-- ==== Sys2Proof/Machine/Filter.lean ====
section
/-! DEFINITION. The filter step of the lines at a tick (R70, R72). -/

namespace Sys2Proof.Machine

/-- A vector with each element replaced by a function of its index and itself. -/
def mapIndexed {α : Type} {n : Nat} (f : Fin n → α → α) (v : Vector α n) : Vector α n :=
  ⟨(List.ofFn fun i => f i v[i.val]).toArray, by simp⟩

/-- The threshold of a selection; none under profile 0 (R69, R70). -/
def LineFrontEnd.threshold (l : LineFrontEnd) (sel : Fin 5) : Option Nat :=
  if h : sel.val = 0 then none else some (l.thresholds[sel.val - 1]'(by omega))

/-- One filter step of one line under a threshold, or unfiltered (R70). -/
def Line.step (l : Line) (threshold : Option Nat) (pin : Bool) : Line :=
  match threshold with
  | none => { l with raw := pin, before := l.filtered, filtered := pin, count := 0 }
  | some t =>
    if pin = l.filtered then { l with raw := pin, before := l.filtered, count := 0 }
    else if l.count + 1 < t then { l with raw := pin, before := l.filtered, count := l.count + 1 }
    else { l with raw := pin, before := l.filtered, filtered := pin, count := 0 }

/-- The step of tick 0: the levels become the raw level, and no edge occurs (R72). -/
def Line.firstStep (l : Line) (pin : Bool) : Line := { l with raw := pin, before := pin, filtered := pin, count := 0 }

/-- The filter step of all sixteen lines at a tick: each samples its IN pin, bit i of `pins` for IN i (R70). That all sixteen are one claim,
so that a PROFILE_SET of the tick has the same place against the step of every line it affects, is the model's (R75 gives the order for
an affected line; DESIGN CHOICE, log 26). -/
def LineFrontEnd.step (l : LineFrontEnd) (pins : BitVec 16) : LineFrontEnd :=
  { l with
    lines := mapIndexed (fun i line =>
      if l.fresh then line.firstStep (pins.getLsbD i.val) else line.step (l.threshold line.selection) (pins.getLsbD i.val)) l.lines
    fresh := false
    stepped := true }

/-- Each tick has one filter step (R70); a second in the same tick does not occur (log 2). -/
def filterStep (pins : BitVec 16) (s : State) : State := if s.lfe.stepped then s else s.setLfe (s.lfe.step pins)

/-- The raw levels of the lines, bit i that of IN i (R69). -/
def LineFrontEnd.levels (l : LineFrontEnd) : BitVec 16 := BitVec.ofNat 16 (flagByte (l.lines.toList.map (·.raw)))

/-- A claim that needs the levels of this tick comes after the tick's step (R51, R81), and makes it where LINE_FILTER_STEP has not. The next
number of the schedule then says which pins differ from the lines' raw levels, bit i for IN i; where it is exhausted none does (log 13). -/
def madeStep (s : State) : State :=
  if s.lfe.stepped then s
  else
    let c := s.choose 65536
    filterStep (s.lfe.levels ^^^ BitVec.ofNat 16 c.index) c.state

end Sys2Proof.Machine
end

