-- ==== Sys2Proof/Machine/Qualify.lean ====
section
/-! DEFINITION. The Qualifier: the history, the settlement test and its result (R108 to R117), and the histogram (R119 to R121). -/

namespace Sys2Proof.Machine

/-- The history with a sample appended and at most `depth` of the newest kept (R108). -/
def appendHistory (depth : Nat) (h : List Sample32) (v : Sample32) : List Sample32 :=
  let all := h ++ [v]
  all.drop (all.length - depth)

/-- The largest and the smallest sample of a history (R111). -/
def historyMax : List Sample32 → Int
  | [] => 0
  | x :: xs => xs.foldl (fun m y => max m y.toInt) x.toInt

def historyMin : List Sample32 → Int
  | [] => 0
  | x :: xs => xs.foldl (fun m y => min m y.toInt) x.toInt

/-- The spread, computed exactly (R111). -/
def historySpread (h : List Sample32) : Int := historyMax h - historyMin h

/-- The settlement test on a full history: ABS (R112) or REL (R113). -/
def historyPasses (pl : Plan) (h : List Sample32) : Bool :=
  match pl.tolKind with
  | .abs => decide (historySpread h ≤ (pl.tol.toNat : Int))
  | .rel => decide (historySpread h * 65536 ≤ (pl.tol.toNat : Int) * historyMax h)

/-- The test is made: the history is full and windows_done has reached min_windows (R110). -/
def testMade (pl : Plan) (h : List Sample32) (windowsDone : BitVec 24) : Bool :=
  decide (h.length = pl.qualDepth ∧ pl.minWindows.toNat ≤ windowsDone.toNat)

/-- The settled flag and the result after a completion (R114). -/
structure Judgement where
  settled : Bool
  result  : QualResult
  deriving DecidableEq, Repr

def judge (before made passes : Bool) : Judgement :=
  match made, before, passes with
  | false, b, _ => { settled := b, result := .neither }
  | true, false, false => { settled := false, result := .neither }
  | true, false, true => { settled := true, result := .becameTrue }
  | true, true, true => { settled := true, result := .neither }
  | true, true, false => { settled := false, result := .becameFalse }

/-- The bin of a sample: how many edges are at or below it, as signed values (R120). -/
def binOf (edges : List Sample32) (v : Sample32) : Nat := edges.countP (fun e => e.sle v)

/-- A sample is counted into its bin and the binned total (R120, R121). -/
def Histogram.count (h : Histogram) (v : Sample32) : Histogram :=
  { h with bins := h.bins.modify (binOf h.edges v) satInc, total := satInc h.total }

/-- A histogram made at a commit: n edges, n+1 bins of 0 (R119). -/
def Histogram.fresh (edges : List Sample32) : Histogram :=
  { edges := edges, bins := List.replicate (edges.length + 1) 0, total := 0 }

/-- Every bin and the binned total become 0 (R125). -/
def Histogram.clear (h : Histogram) : Histogram := Histogram.fresh h.edges

/-- A context after step 3 and step 4 of a completion with sample value `v` (R108, R114, R120). -/
structure Qualified where
  qual   : Qualifier
  result : QualResult
  deriving DecidableEq, Repr

def Qualifier.complete (pl : Plan) (windowsDone : BitVec 24) (v : Sample32) (q : Qualifier) : Qualified :=
  let hist := q.histogram.map (fun h => h.count v)
  if pl.qualDepth = 0 then { qual := { q with histogram := hist }, result := .neither }
  else
    let h := appendHistory pl.qualDepth q.history v
    let j := judge q.settled (testMade pl h windowsDone) (historyPasses pl h)
    { qual := { history := h, settled := j.settled, histogram := hist }, result := j.result }

end Sys2Proof.Machine
end

