-- ==== Sys2Proof/Machine/Kinds.lean ====
section
/-! DEFINITION. The seven measurement kinds (R81 to R106): what one tick does to the accumulator and the working values, before and
after the point at which a window may complete. -/

namespace Sys2Proof.Machine

/-- The accumulator with its flag cleared, and a window opened at this tick (R85, R87, R89). -/
def Probe.openWindow (pr : Probe) : Probe := { pr with windowOpen := true, acc := .cleared }

/-- One more tick of an open window (step 1 of R85, R87, R89). -/
def Probe.tickWindow (pr : Probe) : Probe := if pr.windowOpen then { pr with acc := pr.acc.inc } else pr

/-- The record and whether the kind's completion condition holds at this tick (R83). -/
structure Accounted where
  probe     : Probe
  completes : Bool
  deriving DecidableEq, Repr

/-- The elapsed count and the expiry countdown of DROPOUT, steps 1 and 2 (R98); `first` at the run's first tick. -/
def Probe.dropoutTick (pr : Probe) (pl : Plan) (a : View) (first : Bool) : Probe :=
  let p1 := if first then pr else { pr with acc := pr.acc.inc, countdown := pr.countdown - 1 }
  if a.rising then { p1 with acc := .cleared, countdown := pl.window } else p1

/-- The accounting of a tick up to the point at which the kind may complete a window (R85, R87, R89, R91, R98). -/
def measureBefore (pl : Plan) (a : View) (first : Bool) (now : Tick) (pr : Probe) : Accounted :=
  match pl.kind with
  | .levelTime => { probe := pr.tickWindow, completes := pr.windowOpen && a.edge }
  | .highTime => { probe := pr.tickWindow, completes := pr.windowOpen && a.falling }
  | .span =>
    let p1 := pr.tickWindow
    if pr.windowOpen && a.rising then
      { probe := { p1 with edgeCount := p1.edgeCount + 1 }, completes := p1.edgeCount + 1 == pl.span }
    else { probe := p1, completes := false }
  | .count | .updown | .quad => { probe := pr, completes := !pl.continuous && now == pr.nextBoundary }
  | .dropout =>
    let p1 := pr.dropoutTick pl a first
    { probe := p1, completes := p1.countdown == 0 }

/-- A quadrature edge steps forward: by the direction of the one edge and the level of the other line (R95). -/
def quadForward (a b : View) : Bool := if a.edge then a.now != b.now else b.now == a.now

/-- The counting step of COUNT, UPDOWN and QUAD (step 2 of R91; R92, R94, R95, R96). -/
def Probe.countStep (pr : Probe) (pl : Plan) (a : View) (b : Option View) : Probe :=
  match pl.kind with
  | .count => if a.rising && b.all (·.now) then { pr with acc := pr.acc.inc } else pr
  | .updown =>
    if a.rising then { pr with acc := if b.any (·.now) then pr.acc.inc else pr.acc.dec } else pr
  | .quad =>
    match b with
    | none => pr
    | some bv =>
      if a.edge && bv.edge then { pr with quadErrors := satInc pr.quadErrors }
      else if a.edge || bv.edge then { pr with acc := if quadForward a bv then pr.acc.inc else pr.acc.dec }
      else pr
  | .levelTime | .highTime | .span | .dropout => pr

/-- The rest of a tick's accounting, made while the probe is still RUNNING under this plan; `completed` when a window completed at this
tick (R85, R87, R89, R91, R98). -/
def measureAfter (pl : Plan) (a : View) (b : Option View) (completed : Bool) (pr : Probe) : Probe :=
  match pl.kind with
  | .levelTime => if a.edge then { pr.openWindow with levelHigh := a.now } else pr
  | .highTime => if a.rising then pr.openWindow else pr
  | .span => if a.rising && !pr.windowOpen then { pr.openWindow with edgeCount := 0 } else pr
  | .count | .updown | .quad =>
    let p1 := if completed then { pr with acc := .cleared, nextBoundary := pr.nextBoundary + pl.window.setWidth 48 } else pr
    p1.countStep pl a b
  | .dropout => if completed then { pr with countdown := pl.window } else pr

/-- The sample formed from the accumulator (R54, R83, R106). -/
def Probe.formSample (pr : Probe) (pl : Plan) : Sample where
  value := pr.acc.value
  saturated := pr.acc.saturated
  level := pl.kind == .levelTime && pr.levelHigh

/-- A record after a run start at tick `now` (R51): DROPOUT's countdown is the timeout (R98), a counting plan's first boundary lies one
window ahead (R91). -/
def Probe.runStarted (pr : Probe) (now : Tick) : Probe :=
  let window := (pr.plan.map (·.window)).getD 0
  { pr with
    state := .running
    armedFrom := none
    startAt := none
    runStart := some now
    windowsDone := 0
    acc := .cleared
    windowOpen := false
    levelHigh := false
    edgeCount := 0
    countdown := window
    nextBoundary := now + window.setWidth 48
    quadErrors := 0
    lastSample := none
    qual := { pr.qual with history := [], settled := false } }

/-- A record with a plan and its edges installed (R36, R60): the generation increments, the run record and the Qualifier context are
cleared, the working values too (R82). The state is not part of it. -/
def Probe.installed (pr : Probe) (pl : Plan) (edges : List Sample32) : Probe :=
  { pr with
    plan := some pl
    generation := pr.generation + 1
    runStart := none
    windowsDone := 0
    acc := .cleared
    windowOpen := false
    levelHigh := false
    edgeCount := 0
    countdown := 0
    nextBoundary := 0
    lastSample := none
    lastOutcome := none
    quadErrors := 0
    qual := { history := [], settled := false, histogram := if pl.edgeCount = 0 then none else some (.fresh edges) } }

/-- The measurement of a run's first tick (R51): no window completes at it. -/
def Probe.firstMeasurement (pr : Probe) (lines : Vector Line 16) (now : Tick) : Probe :=
  match pr.plan with
  | none => pr
  | some pl =>
    measureAfter pl (pl.viewA lines) (pl.viewB lines) false (measureBefore pl (pl.viewA lines) true now pr).probe

end Sys2Proof.Machine
end

