-- ==== Sys2Proof/Machine/Runs.lean ====
section
/-! DEFINITION. Probe runs (R44 to R68): the run start, the window completion and its nine steps, the run end by STOP, the swap, the
measurement claim of a tick, the armed deadline and the probe reset. -/

namespace Sys2Proof.Machine

/-- What a run start, a run end or a swap leaves: the state, and the events to be raised, oldest first. -/
structure Effect where
  state  : State
  events : List Event

/-- A claim that changes nothing. -/
def Effect.unchanged (s : State) : Effect := { state := s, events := [] }

/-- The state with the claim's events raised. -/
def Effect.raised (e : Effect) : State := e.state.raise e.events

/-! ### Run start (R51) -/

/-- A run starts at the present tick at the depth of its cause. It takes in the measurement of that tick if the lines' step of the tick
is made, and leaves it to be taken in before the next claim that reads it otherwise (R51, R81; log 13). -/
def startRun (p : ProbeId) (depth : Nat) (s : State) : Effect :=
  let pr := (s.probe p).runStarted s.timebase
  { state :=
      if s.lfe.stepped then (s.setProbe p (pr.firstMeasurement s.lfe.lines s.timebase)).setMark p .made
      else (s.setProbe p pr).setMark p .first
    events := [{ source := p, kind := .runStart, depth := depth }] }

/-- A claim that reads what the run's first tick contributed comes after it (R51, R67, R138): the lines' step of the tick is made, and the
first measurement of the run with it, where they are still due. -/
def takeIn (p : ProbeId) (s : State) : State :=
  if (s.probe p).state = .running ∧ s.mark p = .first then
    let s1 := madeStep s
    (s1.setProbe p ((s1.probe p).firstMeasurement s1.lfe.lines s1.timebase)).setMark p .made
  else s

/-! ### The swap (R60, R61) -/

/-- The pending commit of `p`: its plan and edges (R39). -/
def State.pendingCommit (s : State) (p : ProbeId) : Option (Plan × List Sample32) :=
  match s.staging with
  | some { owner := o, stage := .pending pl edges } => if o = p then some (pl, edges) else none
  | some { owner := _, stage := .opened _ _ } => none
  | some { owner := _, stage := .edges _ _ _ _ _ } => none
  | some { owner := _, stage := .complete _ _ _ _ } => none
  | none => none

/-- The swap of a pending commit, if `p` has one: the plan is installed and the buffer released; a RUNNING probe begins a new run at
this tick, any other is left READY (R60, R61). -/
def swapPending (p : ProbeId) (s : State) : Effect :=
  match s.pendingCommit p with
  | none => .unchanged s
  | some (pl, edges) =>
    let pr := (s.probe p).installed pl edges
    if pr.state = .running then startRun p 0 ((s.setProbe p pr).setStaging none)
    else { state := (s.setProbe p { pr with state := .ready }).setStaging none, events := [] }

/-! ### Window completion (R53) -/

/-- The record after steps 1 to 4: the sample is last_sample, windows_done is one more, the sample is binned and qualified; the window is
closed (R54). -/
structure Formed where
  probe  : Probe
  sample : Sample
  result : QualResult

def Probe.formWindow (pr : Probe) (pl : Plan) : Formed :=
  let smp := pr.formSample pl
  let wd := satInc pr.windowsDone
  let q := pr.qual.complete pl wd smp.value
  { probe := { pr with lastSample := some smp, windowsDone := wd, qual := q.qual, windowOpen := false }
    sample := smp
    result := q.result }

/-- The reports of step 5 that report_select allows: WINDOW, then SETTLE or DRIFT; what is not generated is not lost (R17, R55). -/
def completionBodies (pl : Plan) (f : Formed) : List ReportBody :=
  let flags := sampleFlags pl f.probe f.sample
  let wd := f.probe.windowsDone
  (if pl.reportSelect = .every then [.window flags f.sample.value wd] else [])
    ++ (if pl.reportSelect = .endOnly then []
        else match f.result with
          | .neither => []
          | .becameTrue => [.settle flags f.sample.value wd]
          | .becameFalse => [.drift flags f.sample.value wd])

/-- A point between two offers of a completion at which it may stand while the purge of another probe's PROBE_RESET comes (R149): 1 says
that it stands there (log 8). -/
def State.standing (s : State) (pauses : Bool) : Choice := s.choose (1 + pauses.toNat)

/-- What offering the reports of a completion leaves: the state, whether one was lost, and the reports still to offer where it stands
between two offers. -/
structure Offering where
  state     : State
  lost      : Bool
  remaining : Option (List ReportBody)

/-- Reports of one occasion, offered one after another (R144, R149). -/
def offerReports (pauses : Bool) (p : ProbeId) : List ReportBody → Bool → State → Offering
  | [], lost, s => { state := s, lost := lost, remaining := none }
  | b :: bs, lost, s =>
    let c := s.standing pauses
    if c.index = 1 then { state := c.state, lost := lost, remaining := some (b :: bs) }
    else
      let o := c.state.generate p b
      offerReports pauses p bs (lost || o.lost) o.state

/-- Step 6: the outcome of the run, by precedence, or none where it continues (R56). -/
def runEndDecision (pl : Plan) (result : QualResult) (lost : Bool) (windowsDone : BitVec 24) : Option RunOutcome :=
  if pl.lossPolicy = .halt ∧ lost = true then some .loss
  else if result = .becameTrue ∧ pl.onSettle = .stop then some .settled
  else if pl.maxWindows ≠ 0 ∧ windowsDone = pl.maxWindows then some .limit
  else none

/-- The END report's content (R57, R58): the partial accumulator only for a counting run ended by STOP. -/
def endReport (pl : Plan) (pr : Probe) (o : RunOutcome) (byStop : Bool) : ReportBody :=
  .runEnd (endFlags pl pr) pr.windowsDone o pr.quadErrors pr.lastSample (if byStop && pl.kind.counting then some pr.acc else none)

/-- The probe enters DONE with an outcome and no open window, and the END report is generated (R57, R58). -/
def endRun (p : ProbeId) (pl : Plan) (o : RunOutcome) (byStop : Bool) (s : State) : State :=
  let pr : Probe := { s.probe p with state := .done, lastOutcome := some o, windowOpen := false }
  ((s.setProbe p pr).generate p (endReport pl pr o byStop)).state

/-- The events of step 8, all of depth 0 (R57, R133). -/
def completionEvents (p : ProbeId) (result : QualResult) (ended : Bool) : List Event :=
  [{ source := p, kind := .window, depth := 0 }]
    ++ (match result with
        | .neither => []
        | .becameTrue => [{ source := p, kind := .settled, depth := 0 }]
        | .becameFalse => [{ source := p, kind := .drift, depth := 0 }])
    ++ (if ended then [{ source := p, kind := .runEnd, depth := 0 }] else [])

/-- Steps 8 and 9, and the rest of the tick's accounting where the probe is still RUNNING under the plan that completed (R57, R60, R81). -/
def finishWindow (p : ProbeId) (pl : Plan) (result : QualResult) (ended : Bool) (s : State) : State :=
  let sw := swapPending p s
  let s9 := sw.state.raise (completionEvents p result ended ++ sw.events)
  if !ended && (s.pendingCommit p).isNone then
    s9.setProbe p (measureAfter pl (pl.viewA s.lfe.lines) (pl.viewB s.lfe.lines) true (s9.probe p))
  else s9

/-- Steps 6 to 9: the end of the run is decided, and the END report of an ending run is an offer of the same occasion (R56, R57, R149). -/
def closeWindow (pauses : Bool) (p : ProbeId) (pl : Plan) (result : QualResult) (lost : Bool) (s : State) : State :=
  match runEndDecision pl result lost (s.probe p).windowsDone with
  | none => finishWindow p pl result false s
  | some out =>
    let c := s.standing pauses
    if c.index = 1 then c.state.setOccasion (some { probe := p, result := result, remaining := [], lost := lost })
    else finishWindow p pl result true (endRun p pl out false c.state)

/-- A completion from step 5 on: it is made whole, or stands between two of its offers (R53, R149). -/
def offerAndClose (pauses : Bool) (p : ProbeId) (pl : Plan) (result : QualResult) (bodies : List ReportBody) (lost : Bool) (s : State) :
    State :=
  let o := offerReports pauses p bodies lost s
  match o.remaining with
  | some bs => o.state.setOccasion (some { probe := p, result := result, remaining := bs, lost := o.lost })
  | none => closeWindow pauses p pl result o.lost o.state

/-- A window completion, steps 1 to 9 in order (R53). -/
def completeWindow (p : ProbeId) (pl : Plan) (s : State) : State :=
  let f := (s.probe p).formWindow pl
  offerAndClose true p pl f.result (completionBodies pl f) false (s.setProbe p f.probe)

/-- A completion that stands between two of its offers goes on; no claim on its probe has come since (R53, R149). -/
def continueOccasion (pauses : Bool) (s : State) : State :=
  match s.occasion with
  | none => s
  | some o =>
    let s0 := s.setOccasion none
    match (s.probe o.probe).plan with
    | none => s0
    | some pl =>
      if (s.probe o.probe).state = .running then offerAndClose pauses o.probe pl o.result o.remaining o.lost s0 else s0

/-! ### The measurement claim (R65, R81) -/

/-- Probe `p` has a measurement to make at this tick: it is RUNNING, the lines' step of the tick is made, and the measurement is not
(R81). -/
def State.measurementDue (s : State) (p : ProbeId) : Bool :=
  (s.probe p).state == .running && s.lfe.stepped && s.mark p != .made

/-- The accounting of probe `p`'s tick up to the completion point (R81). -/
def State.accounted (s : State) (p : ProbeId) (pl : Plan) : Accounted :=
  measureBefore pl (pl.viewA s.lfe.lines) (s.mark p == .first) s.timebase (s.probe p)

/-- The measurement that is due completes a window (R83); at a run's first tick none does. -/
def State.completionDue (s : State) (p : ProbeId) : Bool :=
  s.measurementDue p &&
    (match (s.probe p).plan with
     | none => false
     | some pl => s.mark p != .first && (s.accounted p pl).completes)

/-- The measurement of a tick: the accounting, any window completion, and the rest of the tick where the probe is still RUNNING under
this plan (R65, R81). -/
def measureTick (p : ProbeId) (s : State) : State :=
  match (s.probe p).plan with
  | none => s
  | some pl =>
    let s1 := (s.setProbe p (s.accounted p pl).probe).setMark p .made
    if s.completionDue p then completeWindow p pl s1
    else s1.setProbe p (measureAfter pl (pl.viewA s.lfe.lines) (pl.viewB s.lfe.lines) false (s1.probe p))

/-- The claim is taken where the measurement is due. -/
def measurementClaim (p : ProbeId) (s : State) : State := if s.measurementDue p then measureTick p s else s

/-- The claim is taken where it completes a window (R53; log 4). -/
def completionClaim (p : ProbeId) (s : State) : State := if s.completionDue p then measureTick p s else s

/-- The claim is taken where a pending commit comes due: at the completion that carries it out, or on an owner whose run has ended
(R60; log 4). -/
def swapClaim (p : ProbeId) (s : State) : State :=
  if (s.pendingCommit p).isNone then s
  else if (s.probe p).state = .done then (swapPending p s).raised
  else completionClaim p s

/-! ### Run end by STOP, and the end of a wait (R49, R58) -/

/-- A STOP ends the run: DONE, the END report, RUN_END, then the swap of a pending commit (R58, R60). -/
def stopRun (p : ProbeId) (o : RunOutcome) (depth : Nat) (s : State) : Effect :=
  let s1 := match (s.probe p).plan with
    | none => s.setProbe p { s.probe p with state := .done, lastOutcome := some o, windowOpen := false }
    | some pl => endRun p pl o true s
  let sw := swapPending p s1
  { state := sw.state, events := { source := p, kind := .runEnd, depth := depth } :: sw.events }

/-- The state a cancelled wait returns to (R49). -/
def Probe.armedFromState (pr : Probe) : ProbeState := (pr.armedFrom.map (·.toState)).getD .ready

/-- A wait in ARMED is cancelled (R49). -/
def Probe.waitCancelled (pr : Probe) : Probe := { pr with state := pr.armedFromState, armedFrom := none, startAt := none }

/-! ### The armed deadline (R48) -/

/-- The timebase has reached an ARMED probe's start_at (R48, R79). -/
def State.deadlineReached (s : State) (p : ProbeId) : Bool :=
  (s.probe p).state == .armed && (s.probe p).startAt == some s.timebase

def deadlineClaim (p : ProbeId) (s : State) : State := if s.deadlineReached p then (startRun p 0 s).raised else s

/-! ### Probe reset (R63, R64) -/

/-- The probe returns to the values of R2, its waiting reports are purged, and a stage it owns is released (R43, R63, R155). -/
def resetProbe (p : ProbeId) (s : State) : State := ((s.setProbe p .reset).purge p).releaseOf p

end Sys2Proof.Machine
end

