-- ==== Sys2Proof/Machine/Couplings.lean ====
section
/-! DEFINITION. The Coupling Table (R127 to R141): actions on their targets, fires and misses, and the chains events begin. A chain is
spread over commands: what an event causes waits in State, and any other claim of the tick may come between (R65, R139; log 7). -/

namespace Sys2Proof.Machine

/-- What an action did: its state and events, and whether it was a fire (R135). -/
structure Acted where
  effect : Effect
  fired  : Bool

/-- A SNAPSHOT report of a RUNNING counting probe's accumulator is generated (R50). -/
def snapshotReport (p : ProbeId) (pl : Plan) (s : State) : State :=
  (s.generate p (.snapshot (snapshotFlags pl (s.probe p)) (s.probe p).acc.value)).state

/-- A target takes an action by its state and plan kind at that moment (R50, R135, R136); STOP and SNAPSHOT of a RUNNING target come
after what the run's first tick contributed (R138). -/
def takeAction (target : ProbeId) (action : Action) (depth : Nat) (s : State) : Acted :=
  let pr := s.probe target
  match action with
  | .start =>
    match pr.state with
    | .ready | .done | .armed => { effect := startRun target depth s, fired := true }
    | .free | .running => { effect := .unchanged s, fired := false }
  | .stop =>
    match pr.state with
    | .running => { effect := stopRun target .linked depth (takeIn target s), fired := true }
    | .armed => { effect := .unchanged (s.setProbe target pr.waitCancelled), fired := true }
    | .free | .ready | .done => { effect := .unchanged s, fired := false }
  | .snapshot =>
    match pr.plan with
    | none => { effect := .unchanged s, fired := false }
    | some pl =>
      if pr.state = .running ∧ pl.kind.counting then
        { effect := .unchanged (snapshotReport target pl (takeIn target s)), fired := true }
      else { effect := .unchanged s, fired := false }

/-- The coupling of a slot is counted one fire or one miss (R135). -/
def countAction (slot : SlotId) (fired : Bool) (s : State) : State :=
  match s.cpl.slots[slot.val] with
  | none => s
  | some c =>
    let c1 := if fired then { c with fires := satInc c.fires } else { c with misses := satInc c.misses }
    s.setCpl { s.cpl with slots := s.cpl.slots.set slot.val (some c1) slot.isLt }

/-- The slots whose coupling names an event, in ascending order (R134). -/
def CouplingTable.matching (t : CouplingTable) (source : ProbeId) (kind : EventKind) : List (SlotId × Coupling) :=
  (List.finRange 24).filterMap fun i =>
    match t.slots[i.val] with
    | none => none
    | some c => if c.source = source ∧ c.event = kind then some (i, c) else none

/-- The table takes an event: its couplings act against the table as it stands, all in one claim, or are cut (R134, R137, R139). -/
def takeEvent (e : Event) (s : State) : State :=
  let m := s.cpl.matching e.source e.kind
  if e.depth < Config.cascadeDepth then
    s.setActions (s.actions ++ m.map fun sc => { slot := sc.1, target := sc.2.target, action := sc.2.action, depth := e.depth + 1 })
  else s.setCpl { s.cpl with cascadeCut := satAdd s.cpl.cascadeCut m.length }

/-- The waiting action at place `i` is taken by its target and counted, and its events are raised (R134, R135). -/
def takeWaiting (i : Nat) (s : State) : State :=
  match s.actions[i]? with
  | none => s
  | some w =>
    let acted := takeAction w.target w.action w.depth (s.setActions (s.actions.eraseIdx i))
    (countAction w.slot acted.fired acted.effect.state).raise acted.effect.events

/-- The event at place `k` is the oldest of its source that the table has not taken. -/
def oldestOfItsSource (es : List Event) (k : Nat) : Bool := es[k]?.any fun e => (es.take k).all fun d => d.source != e.source

/-- The places of the events that the table may take next: of each source the oldest, since a source raises its events in order (R133) and
claims on different probes have none (R65). -/
def State.nextEvents (s : State) : List Nat := (List.range s.raised.length).filter (oldestOfItsSource s.raised)

/-- How many claims of the chains may come next: those events, and every waiting action (R138). -/
def State.claims (s : State) : Nat := s.nextEvents.length + s.actions.length

/-- The table takes the event at place `k`. -/
def takeRaised (k : Nat) (s : State) : State :=
  match s.raised[k]? with
  | none => s
  | some e => takeEvent e (s.setRaised (s.raised.eraseIdx k))

/-- One of the next claims is taken, the events before the actions. -/
def takeClaim (i : Nat) (s : State) : State :=
  match s.nextEvents[i]? with
  | some k => takeRaised k s
  | none => takeWaiting (i - s.nextEvents.length) s

/-- The claims an event with `n` depths left before the limit can lead to, itself among them: at most 24 couplings act, each action
raising at most one event (R128, R136, R137). -/
def eventWeight : Nat → Nat
  | 0 => 1
  | n + 1 => 1 + 24 * (1 + eventWeight n)

def Event.weight (e : Event) : Nat := eventWeight (Config.cascadeDepth - e.depth)

def Waiting.weight (w : Waiting) : Nat := 1 + eventWeight (Config.cascadeDepth - w.depth)

/-- An upper bound on the claims that the chains of a state can still make. -/
def State.chainFuel (s : State) : Nat := (s.raised.map Event.weight).sum + (s.actions.map Waiting.weight).sum

/-- The chains go on, one claim after another, in the order the schedule says (R134, R138; log 7). They stop when nothing waits and,
where `pauses`, when the schedule says that another command's claim comes first. -/
def runChain (pauses : Bool) : Nat → State → State
  | 0, s => s
  | n + 1, s =>
    if s.claims = 0 then s
    else
      let c := s.choose (s.claims + pauses.toNat)
      if c.index < s.claims then runChain pauses n (takeClaim c.index c.state) else c.state

/-- What a command leaves goes on: a completion that stands between two of its offers first, then the chains. -/
def State.resume (s : State) : State :=
  let s1 := continueOccasion true s
  if s1.occasion.isSome then s1 else runChain true s1.chainFuel s1

/-- Everything that a tick's claims have caused is made, before the tick ends (R134). -/
def State.finish (s : State) : State :=
  let s1 := continueOccasion false s
  runChain false s1.chainFuel s1

/-- The waiting actions are taken, and no further event, so that a request of the table finds the couplings of one event as one claim
(R139). -/
def takeActions : Nat → State → State
  | 0, s => s
  | n + 1, s =>
    let c := s.choose s.actions.length
    takeActions n (takeWaiting c.index c.state)

end Sys2Proof.Machine
end

