-- ==== Sys2Proof/Machine/Answers.lean ====
section
/-! DEFINITION. What the execution of a request leaves (R180, R181, R198): the new state, the reply, and the events whose couplings act
after the reply is built. -/

namespace Sys2Proof.Machine

/-- The execution of one request by its owning block. -/
structure Answer where
  state  : State
  reply  : Reply
  events : List Event

/-- A refused request changes no state (R181). -/
def deny (d : Denial) (s : State) : Answer := { state := s, reply := .denied d, events := [] }

/-- A request that was carried out and raises no event. -/
def answer (r : Reply) (s : State) : Answer := { state := s, reply := r, events := [] }

/-- Check 3 of R179 on one probe field. -/
def withProbe (b : Byte) (s : State) (f : ProbeId → Answer) : Answer :=
  match probeOf b with
  | none => deny .badProbe s
  | some p => f p

end Sys2Proof.Machine
end

