-- ==== Sys2Proof/Machine/Lines.lean ====
section
/-! DEFINITION. The Line Front End's requests: LINE_SET, LINE_READ, PROFILE_SET (R73 to R76). -/

namespace Sys2Proof.Machine

/-- LINE_SET (R73). -/
def lineSet (line profile : Byte) (s : State) : Answer :=
  match lineOf line with
  | none => deny (.badValue 1) s
  | some l =>
    match selectionOf profile with
    | none => deny (.badValue 2) s
    | some sel =>
      let old := s.lfe.lines[l.val]
      answer (.lineSet l sel old.filtered)
        (s.setLfe { s.lfe with lines := s.lfe.lines.set l.val { old with selection := sel, count := 0 } l.isLt })

/-- LINE_READ (R76). -/
def lineRead (s : State) : Answer := answer (.lineRead s.timebase s.lfe.lines s.lfe.thresholds) s

/-- The number of lines whose selection is profile `k + 1` (R74). -/
def LineFrontEnd.selecting (l : LineFrontEnd) (k : Fin 4) : Nat :=
  l.lines.toList.countP (fun line => line.selection.val == k.val + 1)

/-- PROFILE_SET (R74). -/
def profileSet (profile : Byte) (threshold : BitVec 16) (s : State) : Answer :=
  match profileOf profile with
  | none => deny (.badValue 1) s
  | some k =>
    if 1 ≤ threshold.toNat ∧ threshold.toNat ≤ 4095 then
      answer (.profileSet profile threshold (s.lfe.selecting k))
        (s.setLfe
          { s.lfe with
            thresholds := s.lfe.thresholds.set k.val threshold.toNat k.isLt
            lines := mapIndexed (fun _ line => if line.selection.val = k.val + 1 then { line with count := 0 } else line) s.lfe.lines })
    else deny (.badValue 2) s

end Sys2Proof.Machine
end

