-- ==== Sys2Proof/Machine/LinkRequests.lean ====
section
/-! DEFINITION. STATUS, DEVICE_RESET, CREDIT and TIME (R80, R158, R185 to R187). -/

namespace Sys2Proof.Machine

/-- What STATUS shows (R185). -/
def State.statusView (s : State) : StatusView where
  counters := s.hli.counters
  systemLost := s.rpq.systemLost
  cascadeCut := s.cpl.cascadeCut
  probeTotal := s.rpq.probeTotal
  systemTotal := s.rpq.systemTotal
  credits := s.rpq.credits
  staging := s.staging
  now := s.timebase

/-- The nine counters of R185 set to 0 (R186). -/
def State.clearCounters (s : State) : State :=
  ((s.setHli { s.hli with counters := .reset }).setRpq { s.rpq with systemLost := 0 }).setCpl { s.cpl with cascadeCut := 0 }

/-- STATUS (R185, R186). -/
def status (clear : Byte) (s : State) : Answer :=
  if clear = 0 then answer (.status s.statusView) s
  else if clear = 1 then answer (.status s.statusView) s.clearCounters
  else deny (.badValue 1) s

/-- DEVICE_RESET: from this tick a reset is pending (R187). -/
def deviceReset (s : State) : Answer := answer .deviceReset (s.setHli { s.hli with resetPending := true })

/-- The credits become `n` and are answered with the totals (R158). -/
def creditsSet (n : BitVec 8) (s : State) : Answer :=
  answer (.credit n s.rpq.probeTotal s.rpq.systemTotal) (s.setRpq { s.rpq with credits := n })

/-- CREDIT (R158): mode 00h ADD saturates at 255, mode 01h SET takes any n. -/
def credit (mode n : Byte) (s : State) : Answer :=
  if mode = 0 then (if n = 0 then deny (.badValue 2) s else creditsSet (satAdd s.rpq.credits n.toNat) s)
  else if mode = 1 then creditsSet n s
  else deny (.badValue 1) s

/-- TIME (R80). -/
def time (s : State) : Answer := answer (.time s.timebase) s

end Sys2Proof.Machine
end

