-- ==== Sys2Proof/Machine/ProbeRequests.lean ====
section
/-! DEFINITION. The probes' requests: START, START AT, ARM, STOP, PROBE_RESET, PROBE_READ, SNAPSHOT (R9, R45 to R49, R52, R63), and the
histogram's HIST_READ and HIST_CLEAR (R123, R125). -/

namespace Sys2Proof.Machine

/-- The refusal of a request the probe's state does not allow (R1). -/
def denyState (p : ProbeId) (s : State) : Answer := deny (.badState (s.probe p).state) s

/-- A run starts at the tick the request is taken, at depth 0; the reply carries RUNNING, that tick and the generation (R45, R46). -/
def startNow (p : ProbeId) (s : State) : Answer :=
  let e := startRun p 0 s
  { state := e.state, reply := .start .running s.timebase (s.probe p).generation, events := e.events }

/-- START (R45). -/
def start (p : ProbeId) (s : State) : Answer :=
  match (s.probe p).state with
  | .ready | .done | .armed => startNow p s
  | .free | .running => denyState p s

/-- A READY or DONE probe enters ARMED, with or without a start time; an ARMED one keeps the state it was armed from (R46, R47). -/
def Probe.armedWith (pr : Probe) (from_ : RestState) (t : Option Tick) : Probe :=
  { pr with state := .armed, armedFrom := some from_, startAt := t }

/-- START AT (R46). -/
def startAt (p : ProbeId) (t : Tick) (s : State) : Answer :=
  let pr := s.probe p
  let armed (pr' : Probe) : Answer := answer (.start .armed t pr.generation) (s.setProbe p pr')
  match pr.state with
  | .free | .running => denyState p s
  | .ready => if isFuture t s.timebase then armed (pr.armedWith .ready (some t)) else startNow p s
  | .done => if isFuture t s.timebase then armed (pr.armedWith .done (some t)) else startNow p s
  | .armed => if isFuture t s.timebase then armed { pr with startAt := some t } else startNow p s

/-- ARM (R47). -/
def arm (p : ProbeId) (s : State) : Answer :=
  let pr := s.probe p
  match pr.state with
  | .ready => answer (.arm .armed) (s.setProbe p (pr.armedWith .ready none))
  | .done => answer (.arm .armed) (s.setProbe p (pr.armedWith .done none))
  | .free | .armed | .running => denyState p s

/-- STOP (R49, R58); of a run that began at this tick, after what that tick contributed (R67). The reply carries the state and the
generation that its execution leaves (R198). -/
def stop (p : ProbeId) (s : State) : Answer :=
  let pr := s.probe p
  match pr.state with
  | .armed => answer (.stop pr.armedFromState pr.generation) (s.setProbe p pr.waitCancelled)
  | .running =>
    let e := stopRun p .stopped 0 (takeIn p s)
    { state := e.state, reply := .stop (e.state.probe p).state (e.state.probe p).generation, events := e.events }
  | .free | .ready | .done => denyState p s

/-- PROBE_RESET (R63): the reply carries the number of reports purged. -/
def probeReset (p : ProbeId) (s : State) : Answer := answer (.probeReset (s.rpq.waiting p)) (resetProbe p s)

/-- PROBE_READ (R9); the record after a run start shows what the start's tick contributed (R10, R51). -/
def probeRead (p : ProbeId) (s : State) : Answer :=
  let s1 := takeIn p s
  answer (.probeRead (s1.probe p) (s1.rpq.waiting p)) s1

/-- The accumulator of a counting probe as it stands (R52). -/
def snapshotAnswer (p : ProbeId) (s : State) : Answer :=
  let pr := s.probe p
  answer (.snapshot pr.acc pr.windowsDone pr.quadErrors s.timebase) s

/-- SNAPSHOT (R52); of a run that began at this tick, after what that tick contributed (R51, R68). -/
def snapshot (p : ProbeId) (s : State) : Answer :=
  let pr := s.probe p
  if pr.accShown && pr.plan.any (·.kind.counting) then snapshotAnswer p (takeIn p s) else denyState p s

/-- The halves of HIST_READ (R123, R193). -/
inductive Half where
  | low | high
  deriving DecidableEq, Repr

def Half.ofCode (b : Byte) : Option Half := [Half.low, .high][b.toNat]?

/-- The edges or bins of a half: the first sixteen, or those after (R123). -/
def Half.part {α : Type} (h : Half) (xs : List α) : List α :=
  match h with
  | .low => xs.take 16
  | .high => xs.drop 16

/-- HIST_READ: the state and the histogram first, then the half (R123). -/
def histRead (p : ProbeId) (half : Byte) (s : State) : Answer :=
  let pr := s.probe p
  match pr.qual.histogram with
  | none => denyState p s
  | some h =>
    if pr.state = .free then denyState p s
    else
      match Half.ofCode half with
      | none => deny (.badValue 2) s
      | some hf =>
        answer (.histRead pr.generation h.edges.length half s.timebase h.total (hf.part h.edges) (hf.part h.bins)) s

/-- HIST_CLEAR (R125): the reply carries the binned total before the clear. -/
def histClear (p : ProbeId) (s : State) : Answer :=
  let pr := s.probe p
  match pr.qual.histogram with
  | none => denyState p s
  | some h =>
    if pr.state = .free then denyState p s
    else answer (.histClear pr.generation h.total) (s.setProbe p { pr with qual := { pr.qual with histogram := some h.clear } })

end Sys2Proof.Machine
end

