-- ==== Sys2Proof/Machine/StageRequests.lean ====
section
/-! DEFINITION. The Plan Loader's requests and the lease (R23 to R43). -/

namespace Sys2Proof.Machine

/-- A deadline: the present tick plus the lease, modulo 2^48 (R25, R27). -/
def State.leaseDeadline (s : State) (lease : BitVec 32) : Tick := s.timebase + lease.setWidth 48

/-- STAGE_BEGIN (R25, R26). -/
def stageBegin (p : ProbeId) (lease : BitVec 32) (s : State) : Answer :=
  let opened : Answer := answer (.stageBegin (s.leaseDeadline lease))
    (s.setStaging (some { owner := p, stage := .opened lease (s.leaseDeadline lease) }))
  if lease = 0 then deny (.badValue 2) s
  else
    match s.staging with
    | none => opened
    | some st =>
      if st.owner = p then (if st.stage.phase = .pending then deny (.badPhase .pending none) s else opened)
      else deny (.stageBusy st.owner) s

/-- The owner check of R24, before every other check of the four requests that name a held stage. -/
def asOwner (p : ProbeId) (s : State) (f : Stage → Answer) : Answer :=
  match s.staging with
  | none => deny (.notStaging none) s
  | some st => if st.owner = p then f st.stage else deny (.notStaging (some st.owner)) s

/-- lease_length, in the phases that hold one (R23). -/
def Stage.lease : Stage → BitVec 32
  | .opened l _ => l
  | .edges l _ _ _ _ => l
  | .complete l _ _ _ => l
  | .pending _ _ => 0

/-- The stage after an accepted plan record: EDGES from chunk 0, or COMPLETE when the plan has no edges (R30). -/
def Plan.staged (pl : Plan) (lease : BitVec 32) (deadline : Tick) : Stage :=
  if pl.edgeCount = 0 then .complete lease deadline pl [] else .edges lease deadline pl [] 0

/-- STAGE_PARAMS (R30, R31). -/
def stageParams (p : ProbeId) (record : PlanRecord) (s : State) : Answer :=
  asOwner p s fun stage =>
    if stage.phase = .pending then deny (.badPhase .pending none) s
    else
      match validate record with
      | .error f => deny (.param f) s
      | .ok pl =>
        let next := pl.staged stage.lease (s.leaseDeadline stage.lease)
        answer (.stageParams next.phase pl.chunks (s.leaseDeadline stage.lease)) (s.setStaging (some { owner := p, stage := next }))

/-- The number of the first edge of a chunk that is not greater than its predecessor, counting from `i` (R34). -/
def offendingEdge : Option Sample32 → Nat → List Sample32 → Option Nat
  | _, _, [] => none
  | prev, i, e :: es =>
    match prev with
    | some q => if q.slt e then offendingEdge (some e) (i + 1) es else some i
    | none => offendingEdge (some e) (i + 1) es

/-- The stage after an accepted chunk: COMPLETE after the last, the next chunk expected otherwise (R33). -/
def Plan.chunkTaken (pl : Plan) (lease : BitVec 32) (deadline : Tick) (received : List Sample32) (k : Nat) : Stage :=
  if k + 1 = pl.chunks then .complete lease deadline pl received else .edges lease deadline pl received (k + 1)

/-- STAGE_EDGES (R33, R34). -/
def stageEdges (p : ProbeId) (chunk : Byte) (edges : List Sample32) (s : State) : Answer :=
  asOwner p s fun stage =>
    match stage with
    | .opened _ _ => deny (.badPhase .opened none) s
    | .complete _ _ _ _ => deny (.badPhase .complete none) s
    | .pending _ _ => deny (.badPhase .pending none) s
    | .edges lease _ pl received k =>
      if chunk.toNat ≠ k then deny (.badPhase .edges (some k)) s
      else if edges.length ≠ pl.chunkEdges k then deny .badLength s
      else
        match offendingEdge received.getLast? (received.length + 1) edges with
        | some i => deny (.edgeOrder i) s
        | none =>
          let next := pl.chunkTaken lease (s.leaseDeadline lease) (received ++ edges) k
          answer (.stageEdges next.phase next.expectedChunk (s.leaseDeadline lease)) (s.setStaging (some { owner := p, stage := next }))

/-- The modes of STAGE_COMMIT (R35, R193). -/
inductive CommitMode where
  | immediate | atBoundary
  deriving DecidableEq, Repr

def CommitMode.ofCode (b : Byte) : Option CommitMode := [CommitMode.immediate, .atBoundary][b.toNat]?

/-- An installation on an idle target: READY under the plan, and the buffer released (R36). -/
def installNow (p : ProbeId) (pl : Plan) (edges : List Sample32) (s : State) : State :=
  (s.setProbe p { (s.probe p).installed pl edges with state := .ready }).setStaging none

/-- STAGE_COMMIT of a stage in COMPLETE, by the target's state and plan at this tick (R35, rows 2 to 7). -/
def commitComplete (p : ProbeId) (mode : Byte) (pl : Plan) (edges : List Sample32) (s : State) : Answer :=
  let pr := s.probe p
  match CommitMode.ofCode mode with
  | none => deny (.badValue 2) s
  | some m =>
    match pr.state with
    | .free | .ready | .done => answer (.stageCommit .installed (pr.generation + 1)) (installNow p pl edges s)
    | .armed => deny (.badState .armed) s
    | .running =>
      match m with
      | .immediate => deny (.badState .running) s
      | .atBoundary =>
        if pr.plan.any (·.continuous) then deny .noBoundary s
        else answer (.stageCommit .pending pr.generation) (s.setStaging (some { owner := p, stage := .pending pl edges }))

/-- STAGE_COMMIT (R35). -/
def stageCommit (p : ProbeId) (mode : Byte) (s : State) : Answer :=
  asOwner p s fun stage =>
    match stage with
    | .complete _ _ pl edges => commitComplete p mode pl edges s
    | .opened _ _ | .edges _ _ _ _ _ | .pending _ _ => deny (.badPhase stage.phase stage.expectedChunk) s

/-- STAGE_ABORT (R42). -/
def stageAbort (p : ProbeId) (s : State) : Answer :=
  asOwner p s fun stage => answer (.stageAbort stage.phase) (s.setStaging none)

/-- The timebase reaches the deadline of a stage in OPEN, EDGES or COMPLETE: the buffer is released and a STAGE_EXPIRED report offered
(R28, R164). At any other tick the lease does not expire (R79). -/
def expireLease (s : State) : State :=
  match s.staging with
  | none => s
  | some st =>
    if st.stage.deadline = some s.timebase then
      (s.setStaging none).offerSystem (.stageExpired s.timebase st.owner st.stage.phase (s.probe st.owner).generation)
    else s

end Sys2Proof.Machine
end

