-- ==== Sys2Proof/Machine/TableRequests.lean ====
section
/-! DEFINITION. The Coupling Table's requests (R129 to R131). -/

namespace Sys2Proof.Machine

/-- The lowest slot that satisfies a test. -/
def CouplingTable.lowest (t : CouplingTable) (f : Option Coupling → Bool) : Option SlotId :=
  (List.finRange 24).find? fun i => f t.slots[i.val]

/-- COUPLE_ADD, its checks in the order of R129. -/
def coupleAdd (source : ProbeId) (event : Byte) (target : ProbeId) (action : Byte) (s : State) : Answer :=
  match EventKind.ofCode event with
  | none => deny (.badValue 2) s
  | some ev =>
    if target = source then deny (.badValue 3) s
    else
      match Action.ofCode action with
      | none => deny (.badValue 4) s
      | some act =>
        match s.cpl.lowest (fun c => c.any fun c => c.source = source ∧ c.event = ev ∧ c.target = target) with
        | some slot => deny (.duplicate slot) s
        | none =>
          match s.cpl.lowest (·.isNone) with
          | none => deny .tableFull s
          | some slot =>
            let c : Coupling := { source := source, event := ev, target := target, action := act, fires := 0, misses := 0 }
            answer (.coupleAdd slot) (s.setCpl { s.cpl with slots := s.cpl.slots.set slot.val (some c) slot.isLt })

/-- COUPLE_REMOVE (R130). -/
def coupleRemove (slot : Byte) (s : State) : Answer :=
  match slotOf slot with
  | none => deny (.badValue 1) s
  | some i =>
    match s.cpl.slots[i.val] with
    | none => deny .noSuchCoupling s
    | some c => answer (.coupleRemove c) (s.setCpl { s.cpl with slots := s.cpl.slots.set i.val none i.isLt })

/-- The occupied slots, ascending (R131). -/
def CouplingTable.occupied (t : CouplingTable) : List (SlotId × Coupling) :=
  (List.finRange 24).filterMap fun i => t.slots[i.val].map fun c => (i, c)

/-- COUPLE_LIST (R131). -/
def coupleList (s : State) : Answer := answer (.coupleList s.cpl.occupied) s

end Sys2Proof.Machine
end

