-- ==== Sys2Proof/Machine/Acceptance.lean ====
section
/-! DEFINITION. Dispatch (R179), acceptance (R175 to R178) and the frame receiver (R171, R172). -/

namespace Sys2Proof.Machine

/-- Check 3 of R179, then the owning block (R179). -/
def execute (r : Request) (s : State) : Answer :=
  match r with
  | .status clear => status clear s
  | .deviceReset => deviceReset s
  | .credit mode n => credit mode n s
  | .time => time s
  | .lineSet line profile => lineSet line profile s
  | .lineRead => lineRead s
  | .profileSet profile threshold => profileSet profile threshold s
  | .stageBegin b lease => withProbe b s fun p => stageBegin p lease s
  | .stageParams b record => withProbe b s fun p => stageParams p record s
  | .stageEdges b chunk edges => withProbe b s fun p => stageEdges p chunk edges s
  | .stageCommit b mode => withProbe b s fun p => stageCommit p mode s
  | .stageAbort b => withProbe b s fun p => stageAbort p s
  | .start b => withProbe b s fun p => start p s
  | .startAt b t => withProbe b s fun p => startAt p t s
  | .arm b => withProbe b s fun p => arm p s
  | .stop b => withProbe b s fun p => stop p s
  | .probeReset b => withProbe b s fun p => probeReset p s
  | .probeRead b => withProbe b s fun p => probeRead p s
  | .snapshot b => withProbe b s fun p => snapshot p s
  | .histRead b half => withProbe b s fun p => histRead p half s
  | .histClear b => withProbe b s fun p => histClear p s
  | .coupleAdd a event b action => withProbe a s fun source => withProbe b s fun target => coupleAdd source event target action s
  | .coupleRemove slot => coupleRemove slot s
  | .coupleList => coupleList s

/-- A frame whose KIND or length is refused, or a request that is executed (R179). -/
def dispatch (r : Except DispatchFault Request) (s : State) : Answer :=
  match r with
  | .error .badKind => deny .badKind s
  | .error .badLength => deny .badLength s
  | .ok req => execute req s

/-- A PROBE_RESET of another probe may be taken while a completion stands between two of its offers (R149). -/
def betweenOffers (r : Except DispatchFault Request) (s : State) : Bool :=
  match r, s.occasion with
  | .ok (.probeReset b), some o => (probeOf b).any (· != o.probe)
  | _, _ => false

/-- The requests that claim the Coupling Table (R129 to R131). -/
def ofTable : Except DispatchFault Request → Bool
  | .ok (.coupleAdd _ _ _ _) | .ok (.coupleRemove _) | .ok .coupleList => true
  | _ => false

/-- What must be whole before a request is taken: a completion in progress, unless the request may come between its offers (R53, R149), and
for a request of the table the actions of every event the table has taken (R139). -/
def readyFor (r : Except DispatchFault Request) (s : State) : State :=
  let s1 := if betweenOffers r s then s else continueOccasion false s
  if ofTable r then takeActions s1.actions.length s1 else s1

/-- Step 4 of acceptance: the request is executed; a dequeue may come before its reply enters (R183; log 8); the reply enters; then the
events of its execution are raised (R180, R198). -/
def executeFrame (kind tag : Byte) (r : Except DispatchFault Request) (s : State) : State :=
  let a := dispatch r (readyFor r s)
  (a.state.raceDequeue.enterReply kind tag a.reply).raise a.events

/-- The cache entry that a frame repeats (R178). -/
def HostLink.repeated (h : HostLink) (kind tag : Byte) : Option CacheEntry :=
  if tag = 0 then none else h.cache.find? (fun e => e.tag == tag && e.kind == kind)

/-- A replay: the stored reply enters the queue again and is counted; nothing is executed (R178). -/
def replayReply (e : CacheEntry) (s : State) : State :=
  (s.setHli { s.hli with replies := s.hli.replies ++ [e.reply] }).countLink fun c => { c with replay := satInc c.replay }

/-- Acceptance, in the order of R175: discarded during a pending reset, dropped as busy, replayed, or executed. -/
def acceptFrame (kind tag : Byte) (r : Except DispatchFault Request) (s : State) : State :=
  if s.hli.resetPending then s
  else if Config.replyQueueSize ≤ s.hli.replies.length then s.countLink fun c => { c with busyDrop := satInc c.busyDrop }
  else
    match s.hli.repeated kind tag with
    | some e => replayReply e s
    | none => executeFrame kind tag r s

/-- A good frame is counted and goes to acceptance (R171, R174, R175). -/
def goodFrame (kind tag : Byte) (r : Except DispatchFault Request) (s : State) : State :=
  acceptFrame kind tag r (s.countLink fun c => { c with goodFrame := satInc c.goodFrame })

/-- A host's request with its tag, as the good frame that carries it (log 5). -/
def hostRequest (tag : Byte) (r : Request) (s : State) : State := goodFrame r.kind.code tag r.checkLength s

/-! ### The frame receiver (R171 to R173) -/

/-- The receiver enters HUNT: no partial frame, no silence timed (R171, R172). -/
def State.toHunt (s : State) : State := s.setHli { s.hli with frameRx := .hunt, silenceFrom := none }

/-- The receiver goes on with a partial frame, and its silence is timed from this tick (R172). -/
def State.toState (s : State) (rx : FrameReceiver) : State :=
  s.setHli { s.hli with frameRx := rx, silenceFrom := some s.timebase }

/-- A frame complete with its second check byte: good, or a check error (R171). `body` is KIND, TAG and DATA. -/
def frameComplete (len : Nat) (body : List Byte) (low high : Byte) (s : State) : State :=
  if crc (BitVec.ofNat 8 len :: body) = high ++ low then
    goodFrame (byteField body 0) (byteField body 1) (decodeRequest (byteField body 0) (body.drop 2)) s.toHunt
  else s.toHunt.countLink fun c => { c with checkError := satInc c.checkError }

/-- A delivered byte, by the receiver's state (R171). -/
def takeByte (b : Byte) (s : State) : State :=
  match s.hli.frameRx with
  | .hunt => if b = Config.leadByte then s.toState .length else s
  | .length =>
    if 2 ≤ b.toNat ∧ b.toNat ≤ 250 then s.toState (.body b.toNat [])
    else s.toHunt.countLink fun c => { c with lengthError := satInc c.lengthError }
  | .body len bytes =>
    if (bytes ++ [b]).length < len then s.toState (.body len (bytes ++ [b])) else s.toState (.check len (bytes ++ [b]) none)
  | .check len bytes none => s.toState (.check len bytes (some b))
  | .check len bytes (some low) => frameComplete len bytes low b s

/-- The silence limit has passed since the last byte, in LENGTH, BODY or CHECK, and no character whose start bit was confirmed before this
tick is awaited (R172). -/
def State.gapDue (s : State) : Bool :=
  s.hli.frameRx != .hunt && !s.hli.byteRx.awaited
    && s.hli.silenceFrom.any (fun t => decide (s.hli.silenceLimit ≤ ticksSince s.timebase t))

/-- A gap error, where it is due (R172). -/
def gapError (s : State) : State :=
  if s.gapDue then s.toHunt.countLink fun c => { c with gapError := satInc c.gapError } else s

/-- A character delivered: the byte receiver watches for the next fall and the frame receiver takes the byte (R168, R171). -/
def characterReceived (b : Byte) (s : State) : State :=
  takeByte b (s.setHli { s.hli with byteRx := { s.hli.byteRx with phase := .watching, awaited := false, delivered := none } })

/-- A character discarded: no byte is delivered, the receiver waits for LRX to return high, and a gap error occurs at once if its limit
has passed (R168, R172). -/
def characterDiscarded (s : State) : State :=
  gapError (s.setHli { s.hli with byteRx := { s.hli.byteRx with phase := .waitingHigh, awaited := false, discarded := false } })

/-- A break, once for one low period (R173). -/
def lineBreak (s : State) : State :=
  if s.hli.byteRx.breakCounted then s
  else
    let rx := { s.hli.byteRx with phase := .waitingHigh, awaited := false, breakCounted := true, breakDue := false }
    (s.setHli { s.hli with byteRx := rx }).toHunt.countLink fun c => { c with lineBreak := satInc c.lineBreak }

end Sys2Proof.Machine
end

