-- ==== Sys2Proof/Machine/PartEvents.lean ====
section
/-! DEFINITION. The meanings of the event rows of the table: resets, the clock, the lines, the probes' claims, the lease, the receiver
and the transmitter. An event whose condition does not hold does not occur and changes nothing (log 2). -/

namespace Sys2Proof.Machine

/-- The outcome of every meaning: the next state. -/
abbrev StepOutcome := Host.Outcome State Fault Refusal

/-- A command's own effect is made, and what waits goes on behind it (R134; log 7). -/
def State.done (s : State) : StepOutcome := .next s.resume

/-- A claim on a probe comes after a completion in progress, whole (R53). -/
def State.probeClaim (s : State) (claim : State → State) : StepOutcome := (claim (continueOccasion false s)).done

/-- The byte receiver samples LRX at the present tick (R168). -/
def sampleLink (lrx : Bool) (s : State) : State :=
  s.setHli { s.hli with byteRx := s.hli.byteRx.sample s.hli.bitTime s.hli.breakLength s.timebase lrx }

/-- Every block takes its reset values; the straps and LRX are sampled; BOOT is enqueued with its cause; no claim waits (R163,
R189, R190). Tick 0 is the tick after (R78, R189), and the byte receiver's first sample is that of tick 0 (R168): the next number of the
schedule says whether LRX has another level there than at the reset (DESIGN CHOICE, log 24). The queue of commands and the rest of the
schedule are inputs and stay. -/
def resetPart (rs1 rs0 lrx : Bool) (cause : ResetCause) (s : State) : State :=
  let c := s.choose 2
  sampleLink (lrx != (c.index == 1)) (State.afterReset rs1 rs0 lrx cause c.state.schedule s.pending)

/-- PIN_RESET (R190): RESET held low and released. Tick 0 follows. -/
def execPinReset (rs1 rs0 lrx : Bool) (s : State) : StepOutcome := .next (resetPart rs1 rs0 lrx .pin s)

/-- The reply that a pending DEVICE_RESET waits for has been sent (R189). -/
def State.resetReplySent (s : State) : Bool :=
  s.hli.resetPending && s.hli.transmitter.any (fun f => f.resetReply && s.hli.frameOver s.timebase f)

/-- DEVICE_RESET_EFFECT (R189). -/
def execDeviceResetEffect (rs1 rs0 lrx : Bool) (s : State) : StepOutcome :=
  if s.resetReplySent then .next (resetPart rs1 rs0 lrx .request s) else s.done

/-- A tick of CLK: the count increases by one, wrapping (R78); the tick's claims are due; the byte receiver samples LRX (R168). -/
def advance (lrx : Bool) (s : State) : State :=
  sampleLink lrx { s with
    timebase := s.timebase + 1
    lfe := { s.lfe with stepped := false }
    measured := Vector.replicate 16 .due }

/-- TIMEBASE_ADVANCE (R78): what the tick's claims have caused is taken at that tick, before the next begins (R134). -/
def execTimebaseAdvance (lrx : Bool) (s : State) : StepOutcome := .next (advance lrx s.finish)

/-- LINE_FILTER_STEP (R70), which brings the levels of the IN pins. -/
def execLineFilterStep (pins : BitVec 16) (s : State) : StepOutcome := (filterStep pins s).done

/-- PROBE_MEASUREMENT (R81), with any window completion it causes (R65). -/
def execProbeMeasurement (p : ProbeId) (s : State) : StepOutcome := s.probeClaim (measurementClaim p)

/-- WINDOW_COMPLETION (R53). -/
def execWindowCompletion (p : ProbeId) (s : State) : StepOutcome := s.probeClaim (completionClaim p)

/-- SWAP (R60). -/
def execSwap (p : ProbeId) (s : State) : StepOutcome := s.probeClaim (swapClaim p)

/-- ARMED_DEADLINE (R48). -/
def execArmedDeadline (p : ProbeId) (s : State) : StepOutcome := s.probeClaim (deadlineClaim p)

/-- LEASE_EXPIRY (R28). -/
def execLeaseExpiry (s : State) : StepOutcome := (expireLease s).done

/-- CHARACTER_RECEIVED (R168, R171). -/
def execCharacterReceived (b : Byte) (s : State) : StepOutcome := (characterReceived b s).done

/-- CHARACTER_DISCARDED (R168, R172). -/
def execCharacterDiscarded (s : State) : StepOutcome := (characterDiscarded s).done

/-- GAP_ERROR (R172). -/
def execGapError (s : State) : StepOutcome := (gapError s).done

/-- BREAK (R173). -/
def execLineBreak (s : State) : StepOutcome := (lineBreak s).done

/-- FRAME_ACCEPT (R175): a good frame with this KIND, TAG and DATA. -/
def execFrameAccept (kind tag : Byte) (data : List Byte) (s : State) : StepOutcome :=
  (goodFrame kind tag (decodeRequest kind data) s).done

/-- The free transmitter takes the oldest reply and begins its frame (R183). Under a pending DEVICE_RESET the last waiting reply is its
own (R188). -/
def transmitReply (s : State) : State :=
  match s.hli.transmitter, s.hli.replies with
  | none, m :: rest =>
    s.setHli
      { s.hli with
        replies := rest
        transmitter := some { bytes := m.frame, begun := s.timebase, resetReply := s.hli.resetPending && rest.isEmpty } }
  | none, [] => s
  | some _, _ => s

/-- REPLY_TRANSMIT (R183). -/
def execReplyTransmit (s : State) : StepOutcome := (transmitReply s).done

/-- REPORT_DEQUEUE (R160). -/
def execReportDequeue (s : State) : StepOutcome := (if s.canDequeue then s.dequeue else s).done

/-- The stop bit of the frame's last byte has ended, and the transmitter becomes free (R184). The end of a DEVICE_RESET's reply is
DEVICE_RESET_EFFECT (R189; log 16). -/
def endFrame (s : State) : State :=
  match s.hli.transmitter with
  | none => s
  | some f => if s.hli.frameOver s.timebase f && !f.resetReply then s.setHli { s.hli with transmitter := none } else s

/-- FRAME_END (R184). -/
def execFrameEnd (s : State) : StepOutcome := (endFrame s).done

end Sys2Proof.Machine
end

