-- ==== Sys2Proof/Machine/HostRequests.lean ====
section
/-! DEFINITION. The meanings of the request rows of the table: each is the good frame that carries the request, counted, accepted
(R175), dispatched (R179), executed by its owning block, answered and cached (log 5). -/

namespace Sys2Proof.Machine

/-- STATUS (R185, R186). -/
def execStatus (tag : Byte) (clear : Byte) (s : State) : StepOutcome := (hostRequest tag (.status clear) s).done

/-- DEVICE_RESET (R187). -/
def execDeviceReset (tag : Byte) (s : State) : StepOutcome := (hostRequest tag (.deviceReset) s).done

/-- CREDIT (R158). -/
def execCredit (tag : Byte) (mode n : Byte) (s : State) : StepOutcome := (hostRequest tag (.credit mode n) s).done

/-- TIME (R80). -/
def execTime (tag : Byte) (s : State) : StepOutcome := (hostRequest tag (.time) s).done

/-- LINE_SET (R73). -/
def execLineSet (tag : Byte) (line profile : Byte) (s : State) : StepOutcome := (hostRequest tag (.lineSet line profile) s).done

/-- LINE_READ (R76). -/
def execLineRead (tag : Byte) (s : State) : StepOutcome := (hostRequest tag (.lineRead) s).done

/-- PROFILE_SET (R74). -/
def execProfileSet (tag : Byte) (profile : Byte) (threshold : BitVec 16) (s : State) : StepOutcome := (hostRequest tag (.profileSet profile threshold) s).done

/-- STAGE_BEGIN (R25, R26). -/
def execStageBegin (tag : Byte) (probe : Byte) (lease : BitVec 32) (s : State) : StepOutcome := (hostRequest tag (.stageBegin probe lease) s).done

/-- STAGE_PARAMS (R30, R31). -/
def execStageParams (tag : Byte) (probe : Byte) (record : PlanRecord) (s : State) : StepOutcome := (hostRequest tag (.stageParams probe record) s).done

/-- STAGE_EDGES (R33, R34). -/
def execStageEdges (tag : Byte) (probe chunk : Byte) (edges : List Sample32) (s : State) : StepOutcome := (hostRequest tag (.stageEdges probe chunk edges) s).done

/-- STAGE_COMMIT (R35, R36, R37). -/
def execStageCommit (tag : Byte) (probe mode : Byte) (s : State) : StepOutcome := (hostRequest tag (.stageCommit probe mode) s).done

/-- STAGE_ABORT (R42). -/
def execStageAbort (tag : Byte) (probe : Byte) (s : State) : StepOutcome := (hostRequest tag (.stageAbort probe) s).done

/-- START (R45). -/
def execStart (tag : Byte) (probe : Byte) (s : State) : StepOutcome := (hostRequest tag (.start probe) s).done

/-- START_AT (R46). -/
def execStartAt (tag : Byte) (probe : Byte) (tick : Tick) (s : State) : StepOutcome := (hostRequest tag (.startAt probe tick) s).done

/-- ARM (R47). -/
def execArm (tag : Byte) (probe : Byte) (s : State) : StepOutcome := (hostRequest tag (.arm probe) s).done

/-- STOP (R49, R58). -/
def execStop (tag : Byte) (probe : Byte) (s : State) : StepOutcome := (hostRequest tag (.stop probe) s).done

/-- PROBE_RESET (R63). -/
def execProbeReset (tag : Byte) (probe : Byte) (s : State) : StepOutcome := (hostRequest tag (.probeReset probe) s).done

/-- PROBE_READ (R9). -/
def execProbeRead (tag : Byte) (probe : Byte) (s : State) : StepOutcome := (hostRequest tag (.probeRead probe) s).done

/-- SNAPSHOT (R52). -/
def execSnapshot (tag : Byte) (probe : Byte) (s : State) : StepOutcome := (hostRequest tag (.snapshot probe) s).done

/-- HIST_READ (R123). -/
def execHistRead (tag : Byte) (probe half : Byte) (s : State) : StepOutcome := (hostRequest tag (.histRead probe half) s).done

/-- HIST_CLEAR (R125). -/
def execHistClear (tag : Byte) (probe : Byte) (s : State) : StepOutcome := (hostRequest tag (.histClear probe) s).done

/-- COUPLE_ADD (R129). -/
def execCoupleAdd (tag : Byte) (source event target action : Byte) (s : State) : StepOutcome := (hostRequest tag (.coupleAdd source event target action) s).done

/-- COUPLE_REMOVE (R130). -/
def execCoupleRemove (tag : Byte) (slot : Byte) (s : State) : StepOutcome := (hostRequest tag (.coupleRemove slot) s).done

/-- COUPLE_LIST (R131). -/
def execCoupleList (tag : Byte) (s : State) : StepOutcome := (hostRequest tag (.coupleList) s).done

end Sys2Proof.Machine
end

