-- ==== Sys2Proof/Machine/Dispatch.lean ====
section
/-! DEFINITION. One arm per command: its meaning. -/

namespace Sys2Proof.Machine

def exec (i : Instr) (s : State) : Host.Outcome State Fault Refusal :=
  match i with
  | .pinReset rs1 rs0 lrx => Sys2Proof.Machine.execPinReset rs1 rs0 lrx s
  | .lineFilterStep pins => Sys2Proof.Machine.execLineFilterStep pins s
  | .probeMeasurement p => Sys2Proof.Machine.execProbeMeasurement p s
  | .windowCompletion p => Sys2Proof.Machine.execWindowCompletion p s
  | .swap p => Sys2Proof.Machine.execSwap p s
  | .armedDeadline p => Sys2Proof.Machine.execArmedDeadline p s
  | .leaseExpiry => Sys2Proof.Machine.execLeaseExpiry s
  | .characterReceived b => Sys2Proof.Machine.execCharacterReceived b s
  | .gapError => Sys2Proof.Machine.execGapError s
  | .lineBreak => Sys2Proof.Machine.execLineBreak s
  | .frameAccept kind tag data => Sys2Proof.Machine.execFrameAccept kind tag data s
  | .replyTransmit => Sys2Proof.Machine.execReplyTransmit s
  | .reportDequeue => Sys2Proof.Machine.execReportDequeue s
  | .frameEnd => Sys2Proof.Machine.execFrameEnd s
  | .deviceResetEffect rs1 rs0 lrx => Sys2Proof.Machine.execDeviceResetEffect rs1 rs0 lrx s
  | .status tag clear => Sys2Proof.Machine.execStatus tag clear s
  | .deviceReset tag => Sys2Proof.Machine.execDeviceReset tag s
  | .credit tag mode n => Sys2Proof.Machine.execCredit tag mode n s
  | .time tag => Sys2Proof.Machine.execTime tag s
  | .lineSet tag line profile => Sys2Proof.Machine.execLineSet tag line profile s
  | .lineRead tag => Sys2Proof.Machine.execLineRead tag s
  | .profileSet tag profile threshold => Sys2Proof.Machine.execProfileSet tag profile threshold s
  | .stageBegin tag probe lease => Sys2Proof.Machine.execStageBegin tag probe lease s
  | .stageParams tag probe record => Sys2Proof.Machine.execStageParams tag probe record s
  | .stageEdges tag probe chunk edges => Sys2Proof.Machine.execStageEdges tag probe chunk edges s
  | .stageCommit tag probe mode => Sys2Proof.Machine.execStageCommit tag probe mode s
  | .stageAbort tag probe => Sys2Proof.Machine.execStageAbort tag probe s
  | .start tag probe => Sys2Proof.Machine.execStart tag probe s
  | .startAt tag probe tick => Sys2Proof.Machine.execStartAt tag probe tick s
  | .arm tag probe => Sys2Proof.Machine.execArm tag probe s
  | .stop tag probe => Sys2Proof.Machine.execStop tag probe s
  | .probeReset tag probe => Sys2Proof.Machine.execProbeReset tag probe s
  | .probeRead tag probe => Sys2Proof.Machine.execProbeRead tag probe s
  | .snapshot tag probe => Sys2Proof.Machine.execSnapshot tag probe s
  | .histRead tag probe half => Sys2Proof.Machine.execHistRead tag probe half s
  | .histClear tag probe => Sys2Proof.Machine.execHistClear tag probe s
  | .coupleAdd tag source event target action => Sys2Proof.Machine.execCoupleAdd tag source event target action s
  | .coupleRemove tag slot => Sys2Proof.Machine.execCoupleRemove tag slot s
  | .coupleList tag => Sys2Proof.Machine.execCoupleList tag s
  | .timebaseAdvance lrx => Sys2Proof.Machine.execTimebaseAdvance lrx s
  | .characterDiscarded => Sys2Proof.Machine.execCharacterDiscarded s

end Sys2Proof.Machine
end

