-- ==== Sys2Proof/Safety.lean ====
section
/-! DEFINITION. What counts as a safe state of the FD16: the invariants the manual states of its stores, in the terms claims use. -/

namespace Sys2Proof.Machine

/-- At most 60 probe reports and 4 system reports wait (R146), and the reply queue and cache hold at most four, the cache with distinct
non-zero tags (R177, R182). -/
structure StoresBounded (s : State) : Prop where
  probeShare  : s.rpq.probeTotal ≤ Config.probeShare
  systemShare : s.rpq.systemTotal ≤ Config.systemShare
  replies     : s.hli.replies.length ≤ Config.replyQueueSize
  cache       : s.hli.cache.length ≤ Config.replyCacheSize
  tagsNonzero : ∀ e ∈ s.hli.cache, e.tag ≠ 0
  tagsNodup   : (s.hli.cache.map (·.tag)).Nodup

/-- Every report is in one place (R8): generated = transmitted + waiting + lost, modulo 2^32, for probe `p`. -/
def ReportsAccounted (s : State) (p : ProbeId) : Prop :=
  (s.probe p).generated = (s.probe p).transmitted + BitVec.ofNat 32 (s.rpq.waiting p) + (s.probe p).lost

/-- A pending commit exists only while its owner is RUNNING (R39). -/
def PendingOnlyRunning (s : State) : Prop :=
  ∀ p : ProbeId, (s.pendingCommit p).isSome → (s.probe p).state = .running

/-- The fields of a wait are present in ARMED alone, where armed_from always is (R6). -/
def WaitFieldsArmed (pr : Probe) : Prop :=
  (pr.state ≠ .armed → pr.armedFrom = none ∧ pr.startAt = none) ∧ (pr.state = .armed → pr.armedFrom.isSome)

/-- A probe has a plan in every state but FREE, and none in FREE (R3). -/
def PlanUnlessFree (pr : Probe) : Prop := pr.plan = none ↔ pr.state = .free

/-- No coupling has its source equal to its target, and no two share source, event and target (R128). -/
structure CouplingsDistinct (t : CouplingTable) : Prop where
  noSelf : ∀ (i : SlotId) (c : Coupling), t.slots[i.val] = some c → c.source ≠ c.target
  noTwin : ∀ (i j : SlotId) (c d : Coupling), t.slots[i.val] = some c → t.slots[j.val] = some d →
    c.source = d.source → c.event = d.event → c.target = d.target → i = j

/-- Thresholds stay in 1..4095, and a line's count stays below the threshold of its profile, 0 under profile 0 (R69, R70). -/
structure LinesBounded (l : LineFrontEnd) : Prop where
  thresholds : ∀ k : Fin 4, 1 ≤ l.thresholds[k.val] ∧ l.thresholds[k.val] ≤ 4095
  counts     : ∀ i : LineId, match l.threshold (l.lines[i.val]).selection with
    | none => (l.lines[i.val]).count = 0
    | some t => (l.lines[i.val]).count < t

/-- The staging buffer's edges agree with its plan (R32, R33, R34): chunk by chunk in EDGES, all of them in COMPLETE and PENDING, and
strictly increasing throughout. -/
def StagedEdgesInOrder (st : Staging) : Prop :=
  match st.stage with
  | .opened _ _ => True
  | .edges _ _ pl received k =>
    received.length = 8 * k ∧ k < pl.chunks ∧ pl.edgeCount ≤ 31 ∧ received.Pairwise (fun x y => x.toInt < y.toInt)
  | .complete _ _ pl received =>
    received.length = pl.edgeCount ∧ pl.edgeCount ≤ 31 ∧ received.Pairwise (fun x y => x.toInt < y.toInt)
  | .pending pl received =>
    received.length = pl.edgeCount ∧ pl.edgeCount ≤ 31 ∧ received.Pairwise (fun x y => x.toInt < y.toInt)

/-- A Qualifier context agrees with its probe's plan (R107, R108, R119): a history of at most qual_depth samples, and a histogram exactly
when edge_count is above 0, of edge_count strictly increasing edges and one bin more. -/
def ContextFitsPlan (pr : Probe) : Prop :=
  match pr.plan with
  | none => pr.qual.history = [] ∧ pr.qual.settled = false ∧ pr.qual.histogram = none
  | some pl =>
    pr.qual.history.length ≤ pl.qualDepth ∧
      (match pr.qual.histogram with
        | none => pl.edgeCount = 0
        | some h => h.edges.length = pl.edgeCount ∧ 0 < pl.edgeCount ∧ h.bins.length = pl.edgeCount + 1 ∧
            h.edges.Pairwise (fun x y => x.toInt < y.toInt))

/-! ### The terms in which the statements speak -/

/-- Every value the rules give the part at tick 0 after a reset (R2, R23, R72, R78, R107, R127, R145, R163, R167, R174, R190). `lrx` is the
level of LRX at the reset, and `lrx0` that of the byte receiver's first sample, at tick 0: a fall between them is a fall at tick 0 (R168,
R189). -/
structure ResetValues (t : State) (rs1 rs0 lrx lrx0 : Bool) (cause : ResetCause) : Prop where
  timebase : t.timebase = 0
  tickZero : t.lfe.fresh = true ∧ t.lfe.stepped = false ∧ ∀ p : ProbeId, t.mark p = .due
  nothingWaits : t.occasion = none ∧ t.raised = [] ∧ t.actions = []
  probeIdle : ∀ p : ProbeId, (t.probe p).state = .free ∧ (t.probe p).plan = none ∧ (t.probe p).generation = 0
  runRecord : ∀ p : ProbeId, (t.probe p).armedFrom = none ∧ (t.probe p).startAt = none ∧ (t.probe p).runStart = none ∧
    (t.probe p).windowsDone = 0 ∧ (t.probe p).lastSample = none ∧ (t.probe p).lastOutcome = none
  working : ∀ p : ProbeId, (t.probe p).acc = { value := 0, saturated := false } ∧ (t.probe p).windowOpen = false ∧
    (t.probe p).levelHigh = false ∧ (t.probe p).edgeCount = 0 ∧ (t.probe p).countdown = 0 ∧ (t.probe p).quadErrors = 0
  counters : ∀ p : ProbeId, (t.probe p).generated = 0 ∧ (t.probe p).transmitted = 0 ∧ (t.probe p).lost = 0
  context : ∀ p : ProbeId, (t.probe p).qual = { history := [], settled := false, histogram := none }
  lines : ∀ i : LineId, (t.lfe.lines[i.val]).selection = 0 ∧ (t.lfe.lines[i.val]).count = 0
  thresholds : t.lfe.thresholds = #v[4, 16, 64, 256]
  buffer : t.staging = none
  table : (∀ i : SlotId, t.cpl.slots[i.val] = none) ∧ t.cpl.cascadeCut = 0
  queue : t.rpq.entries = [.boot cause] ∧ (∀ p : ProbeId, t.rpq.lostBefore[p.val] = 0) ∧ t.rpq.credits = 0 ∧ t.rpq.systemLost = 0
  straps : t.hli.rs1 = rs1 ∧ t.hli.rs0 = rs0
  receiver : t.hli.byteRx.phase = (match lrx, lrx0 with
      | true, true | false, true => .watching | true, false => .confirming 0 | false, false => .waitingHigh) ∧
    t.hli.byteRx.level = lrx0 ∧ t.hli.byteRx.lowSince = (if lrx = true ∧ lrx0 = false then some 0 else none) ∧
    t.hli.byteRx.awaited = false ∧ t.hli.byteRx.breakCounted = false ∧ t.hli.byteRx.delivered = none ∧
    t.hli.byteRx.discarded = false ∧ t.hli.byteRx.breakDue = false ∧ t.hli.frameRx = .hunt ∧ t.hli.silenceFrom = none
  replies : t.hli.replies = [] ∧ t.hli.cache = []
  linkCounters : t.hli.counters.goodFrame = 0 ∧ t.hli.counters.checkError = 0 ∧ t.hli.counters.lengthError = 0 ∧
    t.hli.counters.gapError = 0 ∧ t.hli.counters.lineBreak = 0 ∧ t.hli.counters.busyDrop = 0 ∧ t.hli.counters.replay = 0
  sending : t.hli.sequence = 0 ∧ t.hli.transmitter = none ∧ t.hli.resetPending = false

/-- A frame of this KIND and TAG goes on to step 4 of acceptance (R175): no reset is pending, the reply queue has room, and the cache
holds no reply to it. -/
structure Admitted (s : State) (kind tag : Byte) : Prop where
  noReset : s.hli.resetPending = false
  room    : s.hli.replies.length < 4
  fresh   : tag = 0 ∨ ∀ e ∈ s.hli.cache, ¬ (e.tag = tag ∧ e.kind = kind)

/-- Such a frame comes while no completion stands between two of its offers. -/
structure Accepts (s : State) (kind tag : Byte) : Prop extends Admitted s kind tag where
  whole : s.occasion = none

/-- The state with a good frame counted (R174). -/
def State.counted (s : State) : State :=
  { s with hli := { s.hli with counters := { s.hli.counters with goodFrame := satInc s.hli.counters.goodFrame } } }

/-- A state whose reply enters the queue and cache, after the dequeue that may precede it (R177, R180, R183). -/
def State.answered (w : State) (kind tag : Byte) (r : Reply) : State := w.raceDequeue.enterReply kind tag r

/-- The same for a request that raises no event; the claims that wait then go on (R198). -/
def State.replied (w : State) (kind tag : Byte) (r : Reply) : State := (w.answered kind tag r).resume

/-- The same for a request whose execution raises events: they are raised once the reply has entered (R198). -/
def State.repliedRaising (w : State) (kind tag : Byte) (r : Reply) (events : List Event) : State :=
  ((w.answered kind tag r).raise events).resume

/-- No claim that another has caused waits: no event, no action, and no completion between two of its offers. -/
structure Calm (s : State) : Prop where
  whole   : s.occasion = none
  raised  : s.raised = []
  actions : s.actions = []

/-- Successive filter steps of a line under a threshold (R70). -/
def Line.steps (threshold : Nat) (l : Line) (pins : List Bool) : Line := pins.foldl (fun l b => l.step (some threshold) b) l

/-- Probe `p` is RUNNING under `pl` and has the measurement of this tick to make, not its run's first (R81); no completion stands between
two of its offers. -/
structure Measuring (s : State) (p : ProbeId) (pl : Plan) : Prop where
  whole   : s.occasion = none
  running : (s.probe p).state = .running
  plan    : (s.probe p).plan = some pl
  stepped : s.lfe.stepped = true
  due     : s.mark p = .due

/-- No coupling of the table has `p` as its source. -/
def State.uncoupled (s : State) (p : ProbeId) : Prop :=
  ∀ (i : SlotId) (c : Coupling), s.cpl.slots[i.val] = some c → c.source ≠ p

/-- The transmitter takes no report, whatever waits: it is busy, a reply waits, or no credit is left (R160, R183). -/
def State.linkHeld (s : State) : Prop := s.hli.transmitter ≠ none ∨ s.hli.replies ≠ [] ∨ s.rpq.credits = 0

/-- No dequeue comes between the offers of a claim: the transmitter takes no report, or the schedule names the first possibility at every
choice, which is that none comes (log 8). -/
def State.undisturbed (s : State) : Prop := s.linkHeld ∨ ∀ n ∈ s.schedule, n = 0

/-- The completion conditions of R83, by kind. -/
def CompletesNow (s : State) (p : ProbeId) (pl : Plan) : Prop :=
  let a := pl.viewA s.lfe.lines
  let pr := s.probe p
  match pl.kind with
  | .levelTime => pr.windowOpen = true ∧ a.edge = true
  | .highTime => pr.windowOpen = true ∧ a.falling = true
  | .span => pr.windowOpen = true ∧ a.rising = true ∧ pr.edgeCount + 1 = pl.span
  | .count | .updown | .quad => pl.window ≠ 0 ∧ s.timebase = pr.nextBoundary
  | .dropout => (if a.rising then pl.window else pr.countdown - 1) = 0

/-- The accumulator from which the sample of a completion is formed (R83). -/
def closingAccumulator (s : State) (p : ProbeId) (pl : Plan) : Accumulator :=
  match pl.kind with
  | .levelTime | .highTime | .span => (s.probe p).acc.inc
  | .count | .updown | .quad => (s.probe p).acc
  | .dropout => if (pl.viewA s.lfe.lines).rising then .cleared else (s.probe p).acc.inc

/-- The sample of a completion (R54, R83, R106). -/
def closingSample (s : State) (p : ProbeId) (pl : Plan) : Sample :=
  { value := (closingAccumulator s p pl).value
    saturated := (closingAccumulator s p pl).saturated
    level := pl.kind == .levelTime && (s.probe p).levelHigh }

/-- The run record that R51 gives a RUNNING probe at its run start. -/
def newRun (pr : Probe) (pl : Plan) (now : Tick) : Probe :=
  { pr with
    state := .running, armedFrom := none, startAt := none, runStart := some now, windowsDone := 0,
    acc := { value := 0, saturated := false }, windowOpen := false, levelHigh := false, edgeCount := 0, countdown := pl.window,
    nextBoundary := now + pl.window.setWidth 48, quadErrors := 0, lastSample := none,
    qual := { history := [], settled := false, histogram := pr.qual.histogram } }

/-- What the first tick contributes to a new run: an opening edge opens the first window, a counting kind counts, and a DROPOUT run stands
at 0 with a full countdown (R85, R87, R89, R92, R94, R95, R98, R103). -/
def firstTick (pl : Plan) (lines : Vector Line 16) (run : Probe) : Probe :=
  let a := pl.viewA lines
  match pl.kind with
  | .levelTime => if a.edge then { run with windowOpen := true, levelHigh := a.now } else run
  | .highTime | .span => if a.rising then { run with windowOpen := true } else run
  | .count | .updown | .quad => run.countStep pl a (pl.viewB lines)
  | .dropout => run

/-- The record that an installation or a swap gives (R36, R60): the new plan, the generation one more, and the run record, the working
values and the Qualifier's context cleared. -/
def replanned (pr : Probe) (pl : Plan) (edges : List Sample32) : Probe :=
  { pr with
    plan := some pl, generation := pr.generation + 1, runStart := none, windowsDone := 0,
    acc := { value := 0, saturated := false }, windowOpen := false, levelHigh := false, edgeCount := 0, countdown := 0,
    nextBoundary := 0, lastSample := none, lastOutcome := none, quadErrors := 0
    qual := ⟨[], false, if pl.edgeCount = 0 then none else some ⟨edges, List.replicate (edges.length + 1) 0, 0⟩⟩ }

/-- Reports of one probe made at one tick, the first of them carrying lost_before (R147). -/
def reportsOf (p : ProbeId) (generation : BitVec 8) (stamp : Tick) (lostBefore : BitVec 16) : List ReportBody → List Report
  | [] => []
  | b :: bs => .probe p generation stamp lostBefore b :: reportsOf p generation stamp 0 bs

/-- The reports of step 5 that report_select allows (R55). -/
def selectedReports (pl : Plan) (result : QualResult) (flags : ReportFlags) (value : Sample32) (windowsDone : BitVec 24) :
    List ReportBody :=
  (if pl.reportSelect = .every then [.window flags value windowsDone] else [])
    ++ (if pl.reportSelect ≠ .endOnly ∧ result = .becameTrue then [.settle flags value windowsDone] else [])
    ++ (if pl.reportSelect ≠ .endOnly ∧ result = .becameFalse then [.drift flags value windowsDone] else [])

/-- One row of the validation table (R21): what fails, the field and the reason. -/
structure ParamCheck where
  fails  : Bool
  field  : Nat
  reason : ParamReason

/-- The twenty checks of R21, each on the record's own bytes. -/
def paramChecks (r : PlanRecord) : List ParamCheck :=
  let edgeDefined := r.kind == 0 || r.kind == 1 || r.kind == 2
  let signed := r.kind == 4 || r.kind == 5
  let dropout := r.kind == 6
  let span := r.kind == 2
  let continuous := (r.kind == 3 || signed) && r.window == 0
  let bAbsent := r.lineB == 0xFF
  let rel := r.flags.getLsbD 2
  [⟨decide (6 < r.kind.toNat), 1, .kindUnknown⟩,
   ⟨decide (15 < r.lineA.toNat), 2, .lineRange⟩,
   ⟨!bAbsent && decide (15 < r.lineB.toNat), 4, .lineRange⟩,
   ⟨bAbsent && signed, 4, .bRequired⟩,
   ⟨!bAbsent && (edgeDefined || dropout), 4, .bNotAllowed⟩,
   ⟨dropout && r.window == 0, 6, .windowRequired⟩,
   ⟨edgeDefined && r.window != 0, 6, .windowNotAllowed⟩,
   ⟨span && r.span == 0, 7, .spanRange⟩,
   ⟨!span && r.span != 0, 7, .spanNotAllowed⟩,
   ⟨r.maxWindows != 0 && decide (r.maxWindows.toNat < r.minWindows.toNat), 9, .minOverMax⟩,
   ⟨r.qualDepth == 1 || decide (8 < r.qualDepth.toNat), 10, .qualDepthRange⟩,
   ⟨r.qualDepth != 0 && (continuous || dropout), 10, .qualNotAllowed⟩,
   ⟨rel && signed, 11, .relNotAllowed⟩,
   ⟨(!rel && decide (16777215 < r.tol.toNat)) || (rel && decide (65535 < r.tol.toNat)), 12, .tolRange⟩,
   ⟨decide (1 < r.onSettle.toNat), 13, .selectRange⟩,
   ⟨decide (2 < r.reportSelect.toNat), 14, .selectRange⟩,
   ⟨r.quota == 0 || decide (32 < r.quota.toNat), 15, .quotaRange⟩,
   ⟨decide (1 < r.lossPolicy.toNat), 16, .selectRange⟩,
   ⟨decide (31 < r.edgeCount.toNat), 17, .edgesRange⟩,
   ⟨r.edgeCount != 0 && continuous, 17, .edgesNotAllowed⟩]

/-- The command that carries a request with a tag. -/
def requestCommand (tag : Byte) : Request → Instr
  | .status clear => .status tag clear
  | .deviceReset => .deviceReset tag
  | .credit mode n => .credit tag mode n
  | .time => .time tag
  | .lineSet line profile => .lineSet tag line profile
  | .lineRead => .lineRead tag
  | .profileSet profile threshold => .profileSet tag profile threshold
  | .stageBegin probe lease => .stageBegin tag probe lease
  | .stageParams probe record => .stageParams tag probe record
  | .stageEdges probe chunk edges => .stageEdges tag probe chunk edges
  | .stageCommit probe mode => .stageCommit tag probe mode
  | .stageAbort probe => .stageAbort tag probe
  | .start probe => .start tag probe
  | .startAt probe tick => .startAt tag probe tick
  | .arm probe => .arm tag probe
  | .stop probe => .stop tag probe
  | .probeReset probe => .probeReset tag probe
  | .probeRead probe => .probeRead tag probe
  | .snapshot probe => .snapshot tag probe
  | .histRead probe half => .histRead tag probe half
  | .histClear probe => .histClear tag probe
  | .coupleAdd source event target action => .coupleAdd tag source event target action
  | .coupleRemove slot => .coupleRemove tag slot
  | .coupleList => .coupleList tag

/-- Bytes delivered one after another at one tick (R171). -/
def deliver (s : State) (bytes : List Byte) : State := bytes.foldl (fun s b => characterReceived b s) s

end Sys2Proof.Machine
end

