-- ==== Sys2Proof/Certificates/Slice0/Obligations.lean ====
section
/-! DEFINITION. The statements for the provers. Each docstring names the rules it formalises, or says that it rests on a choice of the
model and names the log entry. -/

open Sys2Proof Sys2Proof.Machine

/-! ### The step, the resets and the clock -/

/-- A step takes the command at the front of the queue and runs it with the queue's rest. The queue is the model's (log 1). -/
def Obligations.StepRunsFrontCommand : Prop :=
  ∀ (c : Instr) (rest : List Instr) (s : State), step { s with pending := c :: rest } = exec c { s with pending := rest }

/-- PIN_RESET and, once the reply it waits for has been sent, DEVICE_RESET_EFFECT give every block its reset values and enqueue BOOT
with their cause. They leave the part at tick 0, the tick after: the lines' step of tick 0 is still to be made, the byte receiver has its
sample of tick 0, so that a fall of LRX between the reset and tick 0 is a fall at tick 0, nothing waits to be taken, and the queue of
commands stays (R2, R72, R78, R163, R168, R189, R190; that the queue stays is the model's, log 11, that a cleared level in progress is LOW
log 23, that the schedule brings the level of LRX at tick 0 log 24, and the marks of the tick log 18). Before its reply has been sent
DEVICE_RESET_EFFECT changes nothing (R189; log 2). -/
def Obligations.ResetsGiveEveryBlockItsResetValues : Prop :=
  (∀ (rs1 rs0 lrx : Bool) (s : State),
    let c := s.choose 2
    ∃ t, exec (.pinReset rs1 rs0 lrx) s = .next t ∧ ResetValues t rs1 rs0 lrx (lrx != (c.index == 1)) .pin ∧
      t.pending = s.pending ∧ t.schedule = c.state.schedule) ∧
  (∀ (rs1 rs0 lrx : Bool) (s : State) (f : Sending),
    s.hli.resetPending = true → s.hli.transmitter = some f → f.resetReply = true →
    f.bytes.length * (160 * s.hli.divisor) ≤ (s.timebase - f.begun).toNat →
    let c := s.choose 2
    ∃ t, exec (.deviceResetEffect rs1 rs0 lrx) s = .next t ∧ ResetValues t rs1 rs0 lrx (lrx != (c.index == 1)) .request ∧
      t.pending = s.pending ∧ t.schedule = c.state.schedule) ∧
  (∀ s : State, (s.schedule = [] → s.choose 2 = { index := 0, state := s }) ∧
    ∀ (n : Nat) (rest : List Nat), s.schedule = n :: rest →
      s.choose 2 = { index := n % 2, state := { s with schedule := rest } }) ∧
  (∀ (rs1 rs0 lrx : Bool) (s : State),
    (s.hli.resetPending = false ∨ ∀ f, s.hli.transmitter = some f →
      f.resetReply = false ∨ (s.timebase - f.begun).toNat < f.bytes.length * (160 * s.hli.divisor)) →
    exec (.deviceResetEffect rs1 rs0 lrx) s = .next s.resume)

/-- TIMEBASE_ADVANCE lets what the tick's claims have caused finish (`State.finish`, which changes nothing where nothing waits; log 7),
increases the count by one, wrapping, opens the tick's step and measurements (the model's marks, log 18), lets the byte receiver take
its sample at the link's rate, and changes nothing else (R78, R134, R168, R173). -/
def Obligations.TimebaseAdvancesByOneTick : Prop :=
  ∀ (lrx : Bool) (s : State), let u := s.finish
    (Calm s → u = s) ∧
    ∃ t, exec (.timebaseAdvance lrx) s = .next t ∧
      t.timebase = s.timebase + 1 ∧ (s.timebase.toNat = 2 ^ 48 - 1 → t.timebase = 0) ∧
      (∀ p : ProbeId, t.mark p = .due ∧ t.probe p = u.probe p) ∧
      t.lfe = { u.lfe with stepped := false } ∧ t.staging = u.staging ∧ t.cpl = u.cpl ∧ t.rpq = u.rpq ∧
      t.hli = { u.hli with
        byteRx := s.hli.byteRx.sample (16 * s.hli.divisor) (320 * s.hli.divisor) (s.timebase + 1) lrx } ∧
      t.occasion = u.occasion ∧ t.raised = u.raised ∧ t.actions = u.actions ∧ t.schedule = u.schedule ∧ t.pending = s.pending

/-! ### The input lines -/

/-- The filter step by the table of R70, on the levels that the IN pins have at the tick: the rows of a profile, the row of profile 0, and
what follows of runs of equal raw levels; and the step of tick 0 (R72). A second LINE_FILTER_STEP of a tick, which the mark `stepped` shows,
does not occur (the model's, log 2 and 18). Claims that wait go on after it (`State.resume`, log 7). -/
def Obligations.FilterStepFollowsThreshold : Prop :=
  (∀ (pins : BitVec 16) (s : State), s.lfe.stepped = true → exec (.lineFilterStep pins) s = .next s.resume) ∧
  (∀ (pins : BitVec 16) (s : State), s.lfe.stepped = false →
    ∃ l : LineFrontEnd, exec (.lineFilterStep pins) s = .next ({ s with lfe := l } : State).resume ∧
      l.thresholds = s.lfe.thresholds ∧ l.stepped = true ∧ l.fresh = false ∧
      ∀ i : LineId, let x := s.lfe.lines[i.val]; let y := l.lines[i.val]; let pin := pins.getLsbD i.val
        y.raw = pin ∧ y.selection = x.selection ∧
        (s.lfe.fresh = true → y.filtered = pin ∧ y.before = pin ∧ y.count = 0) ∧
        (s.lfe.fresh = false →
          y.before = x.filtered ∧
          (x.selection = 0 → y.filtered = pin ∧ y.count = 0) ∧
          ∀ k : Fin 4, x.selection.val = k.val + 1 →
            (pin = x.filtered → y.count = 0 ∧ y.filtered = x.filtered) ∧
            (pin ≠ x.filtered → x.count + 1 < s.lfe.thresholds[k.val] → y.count = x.count + 1 ∧ y.filtered = x.filtered) ∧
            (pin ≠ x.filtered → x.count + 1 = s.lfe.thresholds[k.val] → y.count = 0 ∧ y.filtered = pin))) ∧
  (∀ (S : Nat) (l : Line) (pins : List Bool) (b : Bool), 1 ≤ S → l.count = 0 →
    (l.steps S (pins ++ [b])).filtered ≠ (l.steps S pins).filtered →
    S ≤ pins.length + 1 ∧ ∀ x ∈ (pins ++ [b]).drop (pins.length + 1 - S), x = b) ∧
  (∀ (S n : Nat) (l : Line), 1 ≤ S → l.count = 0 →
    (n < S → (l.steps S (List.replicate n (!l.filtered))).filtered = l.filtered ∧
      (l.steps S (List.replicate n (!l.filtered))).count = n) ∧
    (S ≤ n → (l.steps S (List.replicate n (!l.filtered))).filtered = !l.filtered)) ∧
  (∀ (S : Nat) (l : Line) (pins : List Bool), 1 ≤ S → l.count < S → (l.steps S pins).count < S)

/-- LINE_SET and PROFILE_SET: their checks in order, their effects and their replies (R73, R74). -/
def Obligations.LineRequestsSelectAndSetFilters : Prop :=
  (∀ (tag line profile : Byte) (s : State), Accepts s 0x10 tag →
    (15 < line.toNat → exec (.lineSet tag line profile) s = .next (s.counted.replied 0x10 tag (.denied (.badValue 1)))) ∧
    (line.toNat ≤ 15 → 4 < profile.toNat →
      exec (.lineSet tag line profile) s = .next (s.counted.replied 0x10 tag (.denied (.badValue 2)))) ∧
    (∀ (i : LineId) (sel : Fin 5), line.toNat = i.val → profile.toNat = sel.val →
      ∃ l : LineFrontEnd,
        exec (.lineSet tag line profile) s =
          .next ({ s.counted with lfe := l }.replied 0x10 tag (.lineSet i sel (s.lfe.lines[i.val]).filtered)) ∧
        l.thresholds = s.lfe.thresholds ∧ l.fresh = s.lfe.fresh ∧ l.stepped = s.lfe.stepped ∧
        l.lines[i.val] = { s.lfe.lines[i.val] with selection := sel, count := 0 } ∧
        ∀ j : LineId, j ≠ i → l.lines[j.val] = s.lfe.lines[j.val])) ∧
  (∀ (tag profile : Byte) (threshold : BitVec 16) (s : State), Accepts s 0x12 tag →
    (profile.toNat < 1 ∨ 4 < profile.toNat →
      exec (.profileSet tag profile threshold) s = .next (s.counted.replied 0x12 tag (.denied (.badValue 1)))) ∧
    (1 ≤ profile.toNat → profile.toNat ≤ 4 → (threshold.toNat < 1 ∨ 4095 < threshold.toNat) →
      exec (.profileSet tag profile threshold) s = .next (s.counted.replied 0x12 tag (.denied (.badValue 2)))) ∧
    (∀ k : Fin 4, profile.toNat = k.val + 1 → 1 ≤ threshold.toNat → threshold.toNat ≤ 4095 →
      ∃ l : LineFrontEnd,
        exec (.profileSet tag profile threshold) s =
          .next ({ s.counted with lfe := l }.replied 0x12 tag
            (.profileSet profile threshold (s.lfe.lines.toList.filter (fun x : Line => x.selection.val == k.val + 1)).length)) ∧
        l.fresh = s.lfe.fresh ∧ l.stepped = s.lfe.stepped ∧
        l.thresholds[k.val] = threshold.toNat ∧ (∀ j : Fin 4, j ≠ k → l.thresholds[j.val] = s.lfe.thresholds[j.val]) ∧
        ∀ i : LineId, l.lines[i.val] =
          if (s.lfe.lines[i.val]).selection.val = k.val + 1 then { s.lfe.lines[i.val] with count := 0 } else s.lfe.lines[i.val]))

/-- The requests that read: each answers what it reads at the tick it is taken and changes nothing but the link's own record of the
frame; of a run that began at this tick PROBE_READ and SNAPSHOT read what the tick contributed, which is taken in first (log 13; R9, R10, R51, R52,
R76, R80, R123, R131, R185, R186). -/
def Obligations.ReadingRequestsAnswerAndChangeNothing : Prop :=
  (∀ (tag : Byte) (s : State), Accepts s 0x04 tag → exec (.time tag) s = .next (s.counted.replied 0x04 tag (.time s.timebase))) ∧
  (∀ (tag : Byte) (s : State), Accepts s 0x11 tag →
    exec (.lineRead tag) s = .next (s.counted.replied 0x11 tag (.lineRead s.timebase s.lfe.lines s.lfe.thresholds))) ∧
  (∀ (tag : Byte) (s : State), Accepts s 0x01 tag →
    exec (.status tag 0) s =
      .next (s.counted.replied 0x01 tag (.status
        { counters := { s.hli.counters with goodFrame := satInc s.hli.counters.goodFrame }, systemLost := s.rpq.systemLost,
          cascadeCut := s.cpl.cascadeCut, probeTotal := (s.rpq.entries.filter (fun r => r.source.isSome)).length,
          systemTotal := (s.rpq.entries.filter (fun r => r.source.isNone)).length, credits := s.rpq.credits,
          staging := s.staging, now := s.timebase }))) ∧
  (∀ (tag b : Byte) (p : ProbeId) (s : State), Accepts s 0x34 tag → b.toNat = p.val →
    let r := takeIn p s.counted
    exec (.probeRead tag b) s =
      .next (r.replied 0x34 tag
        (.probeRead (r.probe p) (s.rpq.entries.filter (fun x : Report => x.source == some p)).length))) ∧
  (∀ (tag b : Byte) (p : ProbeId) (pl : Plan) (s : State), Accepts s 0x35 tag → b.toNat = p.val → (s.probe p).plan = some pl →
    ((s.probe p).state = .running ∨ (s.probe p).state = .done) → (pl.kind = .count ∨ pl.kind = .updown ∨ pl.kind = .quad) →
    let r := takeIn p s.counted
    exec (.snapshot tag b) s =
      .next (r.replied 0x35 tag (.snapshot (r.probe p).acc (r.probe p).windowsDone (r.probe p).quadErrors s.timebase))) ∧
  (∀ (tag b : Byte) (p : ProbeId) (s : State), Accepts s 0x35 tag → b.toNat = p.val →
    (((s.probe p).state ≠ .running ∧ (s.probe p).state ≠ .done) ∨
      ∃ pl, (s.probe p).plan = some pl ∧ pl.kind ≠ .count ∧ pl.kind ≠ .updown ∧ pl.kind ≠ .quad) →
    exec (.snapshot tag b) s = .next (s.counted.replied 0x35 tag (.denied (.badState (s.probe p).state)))) ∧
  (∀ (tag : Byte) (s : State), Accepts s 0x42 tag → s.actions = [] →
    ∃ occ : List (SlotId × Coupling),
      exec (.coupleList tag) s = .next (s.counted.replied 0x42 tag (.coupleList occ)) ∧
      (∀ (i : SlotId) (c : Coupling), (i, c) ∈ occ ↔ s.cpl.slots[i.val] = some c) ∧ occ.Pairwise (fun x y => x.1 < y.1))

/-- HIST_READ and HIST_CLEAR: their checks in order, their effects and their replies (R123, R125). -/
def Obligations.HistogramRequestsReadAndClear : Prop :=
  (∀ (tag b half : Byte) (p : ProbeId) (s : State), Accepts s 0x38 tag → b.toNat = p.val →
    ((s.probe p).qual.histogram = none ∨ (s.probe p).state = .free →
      exec (.histRead tag b half) s = .next (s.counted.replied 0x38 tag (.denied (.badState (s.probe p).state)))) ∧
    (∀ h : Histogram, (s.probe p).qual.histogram = some h → (s.probe p).state ≠ .free →
      (1 < half.toNat → exec (.histRead tag b half) s = .next (s.counted.replied 0x38 tag (.denied (.badValue 2)))) ∧
      (half = 0 → exec (.histRead tag b half) s =
        .next (s.counted.replied 0x38 tag
          (.histRead (s.probe p).generation h.edges.length 0 s.timebase h.total (h.edges.take 16) (h.bins.take 16)))) ∧
      (half = 1 → exec (.histRead tag b half) s =
        .next (s.counted.replied 0x38 tag
          (.histRead (s.probe p).generation h.edges.length 1 s.timebase h.total (h.edges.drop 16) (h.bins.drop 16)))))) ∧
  (∀ (tag b : Byte) (p : ProbeId) (s : State), Accepts s 0x39 tag → b.toNat = p.val →
    ((s.probe p).qual.histogram = none ∨ (s.probe p).state = .free →
      exec (.histClear tag b) s = .next (s.counted.replied 0x39 tag (.denied (.badState (s.probe p).state)))) ∧
    (∀ h : Histogram, (s.probe p).qual.histogram = some h → (s.probe p).state ≠ .free →
      exec (.histClear tag b) s =
        .next ((s.counted.setProbe p
          { s.probe p with qual := { (s.probe p).qual with
              histogram := some { edges := h.edges, bins := List.replicate (h.edges.length + 1) 0, total := 0 } } }).replied
          0x39 tag (.histClear (s.probe p).generation h.total))))

/-! ### The measurement kinds -/

/-- A measurement that completes no window, for the edge-defined kinds: the accumulator, open, the level in progress and the edge count
change by the steps of R85, R87 and R89, and nothing else does (R81); claims that wait go on after it (log 7). Of a probe that is not
RUNNING there is no measurement (R81), and none where the lines' step of the tick is still to be made or the probe's measurement of the tick
is made: PROBE_MEASUREMENT then changes nothing but what waits (the model's, log 2 and 18). -/
def Obligations.EdgeKindsMeasureByTheirSteps : Prop :=
  (∀ (s : State) (p : ProbeId), s.occasion = none →
    ((s.probe p).state ≠ .running ∨ s.lfe.stepped = false ∨ s.mark p = .made) → exec (.probeMeasurement p) s = .next s.resume) ∧
  ∀ (s : State) (p : ProbeId) (pl : Plan), Measuring s p pl → ¬ CompletesNow s p pl →
    let a := pl.viewA s.lfe.lines
    let pr := s.probe p
    let after (x : Probe) := exec (.probeMeasurement p) s = .next ((s.setProbe p x).setMark p .made).resume
    (pl.kind = .levelTime →
      (pr.windowOpen = true → after { pr with acc := pr.acc.inc }) ∧
      (pr.windowOpen = false → a.edge = false → after pr) ∧
      (pr.windowOpen = false → a.edge = true →
        after { pr with windowOpen := true, acc := { value := 0, saturated := false }, levelHigh := a.now })) ∧
    (pl.kind = .highTime →
      (pr.windowOpen = true → a.rising = false → after { pr with acc := pr.acc.inc }) ∧
      (pr.windowOpen = false → a.rising = false → after pr) ∧
      (pr.windowOpen = false → a.rising = true →
        after { pr with windowOpen := true, acc := { value := 0, saturated := false } })) ∧
    (pl.kind = .span →
      (pr.windowOpen = true → a.rising = false → after { pr with acc := pr.acc.inc }) ∧
      (pr.windowOpen = true → a.rising = true → after { pr with acc := pr.acc.inc, edgeCount := pr.edgeCount + 1 }) ∧
      (pr.windowOpen = false → a.rising = false → after pr) ∧
      (pr.windowOpen = false → a.rising = true →
        after { pr with windowOpen := true, acc := { value := 0, saturated := false }, edgeCount := 0 }))

/-- A measurement off the boundaries, for the counting kinds: one count, one step or one illegal step, by R92, R94, R95 and R96. -/
def Obligations.CountingKindsMeasureByTheirSteps : Prop :=
  ∀ (s : State) (p : ProbeId) (pl : Plan), Measuring s p pl → ¬ CompletesNow s p pl →
    let a := pl.viewA s.lfe.lines
    let pr := s.probe p
    let after (x : Probe) := exec (.probeMeasurement p) s = .next ((s.setProbe p x).setMark p .made).resume
    (pl.kind = .count → ∀ g : Option View, pl.viewB s.lfe.lines = g →
      (a.rising = true → (∀ b : View, g = some b → b.now = true) → after { pr with acc := pr.acc.inc }) ∧
      ((a.rising = false ∨ ∃ b : View, g = some b ∧ b.now = false) → after pr)) ∧
    (pl.kind = .updown → ∀ b : View, pl.viewB s.lfe.lines = some b →
      (a.rising = true → b.now = true → after { pr with acc := pr.acc.inc }) ∧
      (a.rising = true → b.now = false → after { pr with acc := pr.acc.dec }) ∧
      (a.rising = false → after pr)) ∧
    (pl.kind = .quad → ∀ b : View, pl.viewB s.lfe.lines = some b →
      ((a.rising = true ∧ b.edge = false ∧ b.now = false) ∨ (b.rising = true ∧ a.edge = false ∧ a.now = true) ∨
        (a.falling = true ∧ b.edge = false ∧ b.now = true) ∨ (b.falling = true ∧ a.edge = false ∧ a.now = false) →
        after { pr with acc := pr.acc.inc }) ∧
      ((a.rising = true ∧ b.edge = false ∧ b.now = true) ∨ (b.rising = true ∧ a.edge = false ∧ a.now = false) ∨
        (a.falling = true ∧ b.edge = false ∧ b.now = false) ∨ (b.falling = true ∧ a.edge = false ∧ a.now = true) →
        after { pr with acc := pr.acc.dec }) ∧
      (a.edge = true → b.edge = true →
        after { pr with quadErrors := if pr.quadErrors.toNat = 65535 then pr.quadErrors else pr.quadErrors + 1 }) ∧
      (a.edge = false → b.edge = false → after pr))

/-- A DROPOUT measurement that completes no window (R98), and the ticks of a silence: with timeout T from a rising edge or a run start, the
n-th quiet tick expires exactly when T divides n, and the elapsed count there is n, held at its limit (R99, R100). -/
def Obligations.DropoutExpiresAtMultiplesOfTheTimeout : Prop :=
  (∀ (s : State) (p : ProbeId) (pl : Plan), Measuring s p pl → pl.kind = .dropout → ¬ CompletesNow s p pl →
    let pr := s.probe p
    exec (.probeMeasurement p) s =
      .next ((s.setProbe p
        (if (pl.viewA s.lfe.lines).rising then { pr with acc := { value := 0, saturated := false }, countdown := pl.window }
        else { pr with acc := pr.acc.inc, countdown := pr.countdown - 1 })).setMark p .made).resume) ∧
  (∀ (pl : Plan) (pr : Probe) (quiet : View) (now : Tick) (n : Nat), pl.kind = .dropout → 1 ≤ pl.window.toNat → quiet.rising = false →
    pr.acc = { value := 0, saturated := false } → pr.countdown = pl.window →
    let tick (x : Probe) : Probe :=
      let m := measureBefore pl quiet false now x
      measureAfter pl quiet none m.completes m.probe
    let before := tick^[n] pr
    ((measureBefore pl quiet false now before).completes = true ↔ pl.window.toNat ∣ n + 1) ∧
    (measureBefore pl quiet false now before).probe.acc.value.toNat = min (n + 1) 2147483647)

/-- An accumulator counts exactly up to its limits, sets its flag at the tick it reaches one, and then stays there in both directions;
n ticks of an open window give n, held at 7FFFFFFFh (R84, R104, R105). -/
def Obligations.AccumulatorsSaturateAtTheirLimits : Prop :=
  (∀ a : Accumulator, a.saturated = true → a.inc = a ∧ a.dec = a) ∧
  (∀ a : Accumulator, a.saturated = false →
    a.inc.value.toInt = min (a.value.toInt + 1) 2147483647 ∧
    (a.inc.saturated = true ↔ 2147483647 ≤ a.value.toInt + 1) ∧
    a.dec.value.toInt = max (a.value.toInt - 1) (-2147483648) ∧
    (a.dec.saturated = true ↔ a.value.toInt - 1 ≤ -2147483648)) ∧
  (∀ n : Nat, (Accumulator.inc^[n] { value := 0, saturated := false }).value.toNat = min n 2147483647 ∧
    ((Accumulator.inc^[n] { value := 0, saturated := false }).saturated = true ↔ 2147483647 ≤ n))

/-! ### Window completion -/

/-- Step 5: the reports report_select allows (R55), offered one after another, each judged against what the one before it left. With room in the
queue and no dequeue between them each is enqueued in order with the probe's generation, the tick and lost_before; with the probe's quota
reached each is lost instead and the step notes it (R144, R147, R148). Step 6 then decides with what was lost, and step 7 makes the probe DONE
and offers the END report, which is enqueued or lost by the room there is then (R56, R57). A completion may stand before any offer, the END
report's among them, where the schedule says so (log 8), and goes on from there with the reports still to offer (R149). -/
def Obligations.CompletionReportsAreOfferedInOrder : Prop :=
  (∀ (pl : Plan) (f : Formed),
    completionBodies pl f = selectedReports pl f.result (sampleFlags pl f.probe f.sample) f.sample.value f.probe.windowsDone) ∧
  (∀ (s : State) (p : ProbeId) (pl : Plan) (bodies : List ReportBody) (lost : Bool), s.linkHeld ∨ s.schedule = [] →
    (s.probe p).plan = some pl →
    let pr := s.probe p
    (s.rpq.probeTotal + bodies.length ≤ 60 → s.rpq.waiting p + bodies.length ≤ pl.quota →
      offerReports false p bodies lost s =
        { state := { s with
            probes := s.probes.set p.val { pr with generated := pr.generated + BitVec.ofNat 32 bodies.length }
            rpq := { s.rpq with
              entries := s.rpq.entries ++ reportsOf p pr.generation s.timebase s.rpq.lostBefore[p.val] bodies
              lostBefore := if bodies = [] then s.rpq.lostBefore else s.rpq.lostBefore.set p.val 0 } }
          lost := lost
          remaining := none }) ∧
    (pl.quota ≤ s.rpq.waiting p →
      offerReports false p bodies lost s =
        { state := { s with
            probes := s.probes.set p.val
              { pr with
                generated := pr.generated + BitVec.ofNat 32 bodies.length
                lost := pr.lost + BitVec.ofNat 32 bodies.length }
            rpq := { s.rpq with
              lostBefore := if bodies = [] then s.rpq.lostBefore else s.rpq.lostBefore.set p.val
                (BitVec.ofNat 16 (min (s.rpq.lostBefore[p.val].toNat + bodies.length) 65535)) } }
          lost := lost || decide (bodies ≠ [])
          remaining := none })) ∧
  (∀ (s : State) (p : ProbeId) (b : ReportBody) (bs : List ReportBody) (lost : Bool), let o := s.generate p b
    offerReports false p [] lost s = { state := s, lost := lost, remaining := none } ∧
    offerReports false p (b :: bs) lost s = offerReports false p bs (lost || o.lost) o.state) ∧
  (∀ (s : State) (p : ProbeId) (b : ReportBody) (bs : List ReportBody) (lost : Bool) (rest : List Nat),
    (∀ n, s.schedule = n :: rest → n % 2 = 1 →
      offerReports true p (b :: bs) lost s = { state := { s with schedule := rest }, lost := lost, remaining := some (b :: bs) }) ∧
    (∀ n, s.schedule = n :: rest → n % 2 = 0 →
      let o := ({ s with schedule := rest } : State).generate p b
      offerReports true p (b :: bs) lost s = offerReports true p bs (lost || o.lost) o.state) ∧
    (s.schedule = [] → let o := s.generate p b
      offerReports true p (b :: bs) lost s = offerReports true p bs (lost || o.lost) o.state)) ∧
  (∀ (s : State) (o : Occasion) (pl : Plan) (pauses : Bool), s.occasion = some o → (s.probe o.probe).plan = some pl →
    (s.probe o.probe).state = .running →
    let t := offerReports pauses o.probe o.remaining o.lost { s with occasion := none }
    (∀ bs, t.remaining = some bs → continueOccasion pauses s =
      { t.state with occasion := some { probe := o.probe, result := o.result, remaining := bs, lost := t.lost } }) ∧
    (t.remaining = none → continueOccasion pauses s = closeWindow pauses o.probe pl o.result t.lost t.state)) ∧
  (∀ (pauses : Bool) (p : ProbeId) (pl : Plan) (result : QualResult) (bodies : List ReportBody) (lost : Bool) (s : State),
    let t := offerReports pauses p bodies lost s
    (∀ bs, t.remaining = some bs → offerAndClose pauses p pl result bodies lost s =
      { t.state with occasion := some { probe := p, result := result, remaining := bs, lost := t.lost } }) ∧
    (t.remaining = none → offerAndClose pauses p pl result bodies lost s = closeWindow pauses p pl result t.lost t.state)) ∧
  (∀ (s : State) (p : ProbeId) (pl : Plan) (result : QualResult) (lost : Bool), (s.probe p).plan = some pl →
    let decision := runEndDecision pl result lost (s.probe p).windowsDone
    (decision = none → ∀ pauses, closeWindow pauses p pl result lost s = finishWindow p pl result false s) ∧
    (∀ o, decision = some o →
      let u := s.raceDequeue
      let pr := u.probe p
      let flags : ReportFlags :=
        { saturated := false, settled := pr.qual.settled, level := false, illegal := pl.kind == .quad && pr.quadErrors != 0 }
      let ended : Probe := { pr with state := .done, lastOutcome := some o, windowOpen := false, generated := pr.generated + 1 }
      let leaves (x : Probe) (q : ReportQueue) : Prop := closeWindow false p pl result lost s =
        finishWindow p pl result true { u with probes := u.probes.set p.val x, rpq := q }
      (u.rpq.probeTotal < 60 → u.rpq.waiting p < pl.quota → leaves ended { u.rpq with
        entries := u.rpq.entries ++ [.probe p pr.generation s.timebase s.rpq.lostBefore[p.val]
          (.runEnd flags pr.windowsDone o pr.quadErrors pr.lastSample none)]
        lostBefore := s.rpq.lostBefore.set p.val 0 }) ∧
      (60 ≤ u.rpq.probeTotal ∨ pl.quota ≤ u.rpq.waiting p → leaves { ended with lost := pr.lost + 1 } { u.rpq with
        lostBefore := s.rpq.lostBefore.set p.val (BitVec.ofNat 16 (min (s.rpq.lostBefore[p.val].toNat + 1) 65535)) }) ∧
      (s.schedule = [] → closeWindow true p pl result lost s = closeWindow false p pl result lost s) ∧
      ∀ (n : Nat) (rest : List Nat), s.schedule = n :: rest →
        (n % 2 = 1 → closeWindow true p pl result lost s =
          { s with schedule := rest, occasion := some { probe := p, result := result, remaining := [], lost := lost } }) ∧
        (n % 2 = 0 →
          closeWindow true p pl result lost s = closeWindow false p pl result lost { s with schedule := rest })))

/-- Step 6: the first case of R56's table that holds gives the outcome. -/
def Obligations.RunEndIsDecidedByPrecedence : Prop :=
  ∀ (pl : Plan) (result : QualResult) (lost : Bool) (windowsDone : BitVec 24),
    (pl.lossPolicy = .halt → lost = true → runEndDecision pl result lost windowsDone = some .loss) ∧
    ((pl.lossPolicy = .count ∨ lost = false) → result = .becameTrue → pl.onSettle = .stop →
      runEndDecision pl result lost windowsDone = some .settled) ∧
    ((pl.lossPolicy = .count ∨ lost = false) → (result ≠ .becameTrue ∨ pl.onSettle = .continue) →
      pl.maxWindows ≠ 0 → windowsDone = pl.maxWindows → runEndDecision pl result lost windowsDone = some .limit) ∧
    ((pl.lossPolicy = .count ∨ lost = false) → (result ≠ .becameTrue ∨ pl.onSettle = .continue) →
      (pl.maxWindows = 0 ∨ windowsDone ≠ pl.maxWindows) → runEndDecision pl result lost windowsDone = none)

/-- A window completion whole, taken by PROBE_MEASUREMENT or by WINDOW_COMPLETION (the model's second name for the same claim, log 4),
with room for its reports and no dequeue between them, no pending commit, no coupling on the probe and nothing else waiting: the sample, windows_done, the Qualifier's
context, the reports of steps 5 and 7 in order, the run's end, and what the kind does with the rest of the tick; every other part of the
machine stays (R53, R54, R57, R83, R87, R102, R147). Where the schedule makes the completion stand between two offers, or its events wait,
this is what it comes to when no other claim comes between (`State.finish`; log 7 and 8); with no schedule the command does it all.
Beside that, for any couplings, any room and any schedule: the command makes steps 1 to 4 and offers the reports of step 5
(`offerAndClose`, which CompletionReportsAreOfferedInOrder follows to `finishWindow`); and steps 8 and 9 without a pending commit raise WINDOW, then SETTLED or DRIFT, then
RUN_END where the run ended, all at depth 0 and in this order, behind the events raised before, and open the next window where it did not (R57,
R133). Where no window completes, WINDOW_COMPLETION changes nothing but what waits (the model's, log 2). -/
def Obligations.WindowCompletionIsOneOperation : Prop :=
  (∀ (s : State) (p : ProbeId), s.occasion = none →
    ((s.probe p).state ≠ .running ∨ s.lfe.stepped = false ∨ s.mark p ≠ .due ∨
      ∃ pl, (s.probe p).plan = some pl ∧ ¬ CompletesNow s p pl) → exec (.windowCompletion p) s = .next s.resume) ∧
  (∀ (s : State) (p : ProbeId) (pl : Plan), Measuring s p pl → CompletesNow s p pl →
    let pr := s.probe p
    let smp := closingSample s p pl
    let wd := satInc pr.windowsDone
    let q := pr.qual.complete pl wd smp.value
    let flags : ReportFlags := { saturated := smp.saturated, settled := q.qual.settled, level := smp.level
                                 illegal := pl.kind == .quad && pr.quadErrors != 0 }
    let formed : Probe := { pr with
      lastSample := some smp, windowsDone := wd, qual := q.qual, windowOpen := false, acc := closingAccumulator s p pl
      edgeCount := if pl.kind = .span then pl.span else pr.edgeCount
      countdown := if pl.kind = .dropout then 0 else pr.countdown }
    exec (.probeMeasurement p) s = .next (offerAndClose true p pl q.result (selectedReports pl q.result flags smp.value wd) false
      { s with probes := s.probes.set p.val formed, measured := s.measured.set p.val .made }).resume ∧
    exec (.windowCompletion p) s = exec (.probeMeasurement p) s) ∧
  (∀ (s : State) (p : ProbeId) (pl : Plan) (result : QualResult), s.pendingCommit p = none →
    let pr := s.probe p
    let a := pl.viewA s.lfe.lines
    let raises (kinds : List EventKind) : List Event := s.raised ++ kinds.map (fun k => { source := p, kind := k, depth := 0 })
    let kinds : List EventKind :=
      .window :: (match result with | .neither => [] | .becameTrue => [.settled] | .becameFalse => [.drift])
    finishWindow p pl result true s = { s with raised := raises (kinds ++ [.runEnd]) } ∧
    ∃ x, finishWindow p pl result false s = { s with raised := raises kinds, probes := s.probes.set p.val x } ∧
      (pl.kind = .levelTime → a.edge = true → x = { pr with windowOpen := true, acc := .cleared, levelHigh := a.now }) ∧
      (pl.kind = .highTime → a.rising = false → x = pr) ∧
      (pl.kind = .span → a.rising = true → pr.windowOpen = false →
        x = { pr with windowOpen := true, acc := .cleared, edgeCount := 0 }) ∧
      (pl.kind = .count ∨ pl.kind = .updown ∨ pl.kind = .quad →
        x = ({ pr with acc := .cleared, nextBoundary := pr.nextBoundary + pl.window.setWidth 48 } : Probe).countStep pl a
          (pl.viewB s.lfe.lines)) ∧
      (pl.kind = .dropout → x = { pr with countdown := pl.window })) ∧
  ∀ (s : State) (p : ProbeId) (pl : Plan), Measuring s p pl → CompletesNow s p pl → s.uncoupled p → s.pendingCommit p = none →
    s.raised = [] → s.actions = [] → s.undisturbed → s.rpq.probeTotal + 3 ≤ 60 → s.rpq.waiting p + 3 ≤ pl.quota →
    let pr := s.probe p
    let smp := closingSample s p pl
    let wd := satInc pr.windowsDone
    let q := pr.qual.complete pl wd smp.value
    let outcome := runEndDecision pl q.result false wd
    let illegal := pl.kind == .quad && pr.quadErrors != 0
    let flags : ReportFlags := { saturated := smp.saturated, settled := q.qual.settled, level := smp.level, illegal := illegal }
    let endFlags : ReportFlags := { saturated := false, settled := q.qual.settled, level := false, illegal := illegal }
    let bodies := selectedReports pl q.result flags smp.value wd ++
      (match outcome with
        | none => []
        | some o => [.runEnd endFlags wd o pr.quadErrors (some smp) none])
    ∃ v, exec (.probeMeasurement p) s = .next v ∧ exec (.windowCompletion p) s = .next v ∧ (s.schedule = [] → v.finish = v) ∧
      let t := v.finish
      t.rpq.entries = s.rpq.entries ++ reportsOf p pr.generation s.timebase s.rpq.lostBefore[p.val] bodies ∧
      t.rpq.lostBefore[p.val] = (if bodies = [] then s.rpq.lostBefore[p.val] else 0) ∧
      t.rpq.credits = s.rpq.credits ∧ t.rpq.systemLost = s.rpq.systemLost ∧
      (∀ x : ProbeId, x ≠ p → t.probe x = s.probe x ∧ t.rpq.lostBefore[x.val] = s.rpq.lostBefore[x.val] ∧ t.mark x = s.mark x) ∧
      (t.probe p).lastSample = some smp ∧ (t.probe p).windowsDone = wd ∧ (t.probe p).qual = q.qual ∧
      (t.probe p).plan = some pl ∧ (t.probe p).generation = pr.generation ∧ (t.probe p).runStart = pr.runStart ∧
      (t.probe p).armedFrom = pr.armedFrom ∧ (t.probe p).startAt = pr.startAt ∧
      (t.probe p).generated = pr.generated + BitVec.ofNat 32 bodies.length ∧ (t.probe p).transmitted = pr.transmitted ∧
      (t.probe p).lost = pr.lost ∧ t.mark p = .made ∧
      (∀ o, outcome = some o → (t.probe p).state = .done ∧ (t.probe p).lastOutcome = some o ∧ (t.probe p).windowOpen = false ∧
        (t.probe p).acc = closingAccumulator s p pl ∧ (t.probe p).quadErrors = pr.quadErrors ∧
        (t.probe p).levelHigh = pr.levelHigh ∧ (t.probe p).nextBoundary = pr.nextBoundary ∧
        (t.probe p).edgeCount = (if pl.kind = .span then pl.span else pr.edgeCount) ∧
        (t.probe p).countdown = (if pl.kind = .dropout then 0 else pr.countdown)) ∧
      (outcome = none → (t.probe p).state = .running ∧ (t.probe p).lastOutcome = pr.lastOutcome ∧
        (pl.kind = .levelTime ∨ pl.kind = .span → (t.probe p).windowOpen = true ∧ (t.probe p).acc = .cleared) ∧
        (t.probe p).levelHigh = (if pl.kind = .levelTime then (pl.viewA s.lfe.lines).now else pr.levelHigh) ∧
        (t.probe p).edgeCount = (if pl.kind = .span then 0 else pr.edgeCount) ∧
        (t.probe p).countdown = (if pl.kind = .dropout then pl.window else pr.countdown) ∧
        (pl.kind = .levelTime ∨ pl.kind = .highTime ∨ pl.kind = .span ∨ pl.kind = .dropout →
          (t.probe p).quadErrors = pr.quadErrors ∧ (t.probe p).nextBoundary = pr.nextBoundary) ∧
        (pl.kind = .highTime → (t.probe p).windowOpen = false ∧ (t.probe p).acc = closingAccumulator s p pl) ∧
        (pl.kind = .dropout → (t.probe p).windowOpen = false ∧ (t.probe p).acc = closingAccumulator s p pl) ∧
        (pl.kind = .count ∨ pl.kind = .updown ∨ pl.kind = .quad →
          (t.probe p).windowOpen = false ∧ (t.probe p).nextBoundary = pr.nextBoundary + pl.window.setWidth 48 ∧
          (t.probe p).acc = ({ pr with acc := .cleared }.countStep pl (pl.viewA s.lfe.lines) (pl.viewB s.lfe.lines)).acc ∧
          (t.probe p).quadErrors =
            ({ pr with acc := .cleared }.countStep pl (pl.viewA s.lfe.lines) (pl.viewB s.lfe.lines)).quadErrors)) ∧
      t.timebase = s.timebase ∧ t.lfe = s.lfe ∧ t.staging = s.staging ∧ t.cpl = s.cpl ∧ t.hli = s.hli ∧ Calm t ∧
      t.pending = s.pending

/-! ### The Qualifier -/

/-- The history holds the qual_depth most recent samples, oldest first (R108), and the settlement test compares the exact difference of
every two of them: ABS with tol, REL with the fraction tol/65536 of the largest sample (R111, R112, R113). -/
def Obligations.SettlementTestIsExact : Prop :=
  (∀ (depth : Nat) (samples : List Sample32), 1 ≤ depth →
    samples.foldl (appendHistory depth) [] = samples.drop (samples.length - depth)) ∧
  ∀ (pl : Plan) (h : List Sample32), h ≠ [] →
    (∃ x ∈ h, ∃ y ∈ h, historySpread h = x.toInt - y.toInt) ∧ (∀ x ∈ h, ∀ y ∈ h, x.toInt - y.toInt ≤ historySpread h) ∧
    0 ≤ historySpread h ∧ historySpread h ≤ 4294967295 ∧
    (pl.tolKind = .abs → (historyPasses pl h = true ↔ ∀ x ∈ h, ∀ y ∈ h, x.toInt - y.toInt ≤ pl.tol.toNat)) ∧
    (pl.tolKind = .rel →
      (historyPasses pl h = true ↔
        ∀ x ∈ h, (∀ z ∈ h, z.toInt ≤ x.toInt) → ∀ y ∈ h, (x.toInt - y.toInt) * 65536 ≤ pl.tol.toNat * x.toInt))

/-- Steps 3 and 4: the sample is counted into the histogram, where the plan has one (R54, R120), whatever qual_depth is; the six rows of R114
with the conditions under which the test is made (R110), the history appended first (R108), and nothing but the histogram with
qual_depth 0. -/
def Obligations.SettledFlagFollowsTheTest : Prop :=
  ∀ (pl : Plan) (windowsDone : BitVec 24) (v : Sample32) (q : Qualifier),
    let r := q.complete pl windowsDone v
    let h := appendHistory pl.qualDepth q.history v
    let made := h.length = pl.qualDepth ∧ pl.minWindows.toNat ≤ windowsDone.toNat
    let passes := historyPasses pl h = true
    r.qual.histogram = q.histogram.map (fun g => g.count v) ∧
    (pl.qualDepth = 0 → r.qual.history = q.history ∧ r.qual.settled = q.settled ∧ r.result = .neither) ∧
    (pl.qualDepth ≠ 0 →
      r.qual.history = h ∧
      (¬ made → r.qual.settled = q.settled ∧ r.result = .neither) ∧
      (made → q.settled = false → ¬ passes → r.qual.settled = false ∧ r.result = .neither) ∧
      (made → q.settled = false → passes → r.qual.settled = true ∧ r.result = .becameTrue) ∧
      (made → q.settled = true → passes → r.qual.settled = true ∧ r.result = .neither) ∧
      (made → q.settled = true → ¬ passes → r.qual.settled = false ∧ r.result = .becameFalse))

/-- Step 3: between strictly increasing edges a sample goes into the bin its value lies in; the bin and the binned total count up to
FFFFFFFFh; and while neither is full the total stays the sum of the bins (R120, R121). -/
def Obligations.SamplesAreBinnedBetweenEdges : Prop :=
  ∀ (h : Histogram) (v : Sample32), h.edges.Pairwise (fun x y => x.toInt < y.toInt) → h.bins.length = h.edges.length + 1 →
    let b := binOf h.edges v
    let g := h.count v
    b ≤ h.edges.length ∧
    (∀ i (hi : i < h.edges.length), (i < b → (h.edges[i]).toInt ≤ v.toInt) ∧ (b ≤ i → v.toInt < (h.edges[i]).toInt)) ∧
    g.edges = h.edges ∧ g.bins.length = h.bins.length ∧
    (∀ i : Nat, (g.bins[i]?).map BitVec.toNat =
      if i = b then (h.bins[i]?).map (fun n => min (n.toNat + 1) 4294967295) else (h.bins[i]?).map BitVec.toNat) ∧
    g.total.toNat = min (h.total.toNat + 1) 4294967295 ∧
    ((∀ n ∈ g.bins, n.toNat < 4294967295) → g.total.toNat < 4294967295 → h.total.toNat = (h.bins.map BitVec.toNat).sum →
      g.total.toNat = (g.bins.map BitVec.toNat).sum)

/-! ### Probe runs -/

/-- A run start: the values of R51, the RUN_START event at the depth of its cause, and the first tick's measurement taken in at once when
the lines' step of the tick is made, and marked to be taken in when it is not (the mark is the model's, log 13). What the first tick
contributes, by kind (R51, R85, R87, R89, R91, R98, R103), is taken in by PROBE_MEASUREMENT once the step is made, and before any claim
that reads it, which makes the step of the tick first where it is still due, on levels that the schedule brings (R51, R65, R67, R138;
log 13). That the cleared level in progress is
LOW is the model's (log 23). -/
def Obligations.RunStartSetsTheRunRecord : Prop :=
  (∀ (s : State) (p : ProbeId) (pl : Plan) (depth : Nat), (s.probe p).plan = some pl →
    let run := newRun (s.probe p) pl s.timebase
    (startRun p depth s).events = [{ source := p, kind := .runStart, depth := depth }] ∧
    (s.lfe.stepped = false → (startRun p depth s).state = (s.setProbe p run).setMark p .first) ∧
    (s.lfe.stepped = true → (startRun p depth s).state = (s.setProbe p (firstTick pl s.lfe.lines run)).setMark p .made)) ∧
  (∀ (s : State) (p : ProbeId) (pl : Plan) (before : Probe), before.plan = some pl → s.probe p = newRun before pl s.timebase →
    s.mark p = .first →
    (s.occasion = none → s.lfe.stepped = true → exec (.probeMeasurement p) s =
      .next ((s.setProbe p (firstTick pl s.lfe.lines (s.probe p))).setMark p .made).resume) ∧
    (s.lfe.stepped = true → takeIn p s = (s.setProbe p (firstTick pl s.lfe.lines (s.probe p))).setMark p .made) ∧
    (s.lfe.stepped = false → let c := s.choose 65536
      let l := s.lfe.step (s.lfe.levels ^^^ BitVec.ofNat 16 c.index)
      takeIn p s = (({ c.state with lfe := l } : State).setProbe p (firstTick pl l.lines (s.probe p))).setMark p .made)) ∧
  (∀ (s : State) (i : LineId), s.lfe.levels.getLsbD i.val = (s.lfe.lines[i.val]).raw) ∧
  (∀ (s : State) (p : ProbeId), (s.probe p).state ≠ .running ∨ s.mark p ≠ .first → takeIn p s = s)

/-- START: a run starts at the tick the request is taken, or BAD_STATE (R45). -/
def Obligations.StartBeginsARunOrRefuses : Prop :=
  ∀ (tag b : Byte) (p : ProbeId) (s : State), Accepts s 0x30 tag → b.toNat = p.val →
    let e := startRun p 0 s.counted
    ((s.probe p).state = .free ∨ (s.probe p).state = .running →
      exec (.start tag b) s = .next (s.counted.replied 0x30 tag (.denied (.badState (s.probe p).state)))) ∧
    ((s.probe p).state = .ready ∨ (s.probe p).state = .done ∨ (s.probe p).state = .armed →
      exec (.start tag b) s =
        .next (e.state.repliedRaising 0x30 tag (.start .running s.timebase (s.probe p).generation) e.events))

/-- START AT: a tick 1..2^47−1 ahead arms the probe or replaces its start time; any other starts the run at once (R46, R79). -/
def Obligations.StartAtArmsForTheFutureOnly : Prop :=
  ∀ (tag b : Byte) (tick : Tick) (p : ProbeId) (s : State), Accepts s 0x30 tag → b.toNat = p.val →
    let pr := s.probe p
    let ahead := (tick.toNat + 2 ^ 48 - s.timebase.toNat) % 2 ^ 48
    let e := startRun p 0 s.counted
    let armed (x : Probe) := exec (.startAt tag b tick) s =
      .next ((s.counted.setProbe p x).replied 0x30 tag (.start .armed tick pr.generation))
    (pr.state = .free ∨ pr.state = .running →
      exec (.startAt tag b tick) s = .next (s.counted.replied 0x30 tag (.denied (.badState pr.state)))) ∧
    (1 ≤ ahead → ahead ≤ 2 ^ 47 - 1 →
      (pr.state = .ready → armed { pr with state := .armed, armedFrom := some .ready, startAt := some tick }) ∧
      (pr.state = .done → armed { pr with state := .armed, armedFrom := some .done, startAt := some tick }) ∧
      (pr.state = .armed → armed { pr with startAt := some tick })) ∧
    (ahead = 0 ∨ 2 ^ 47 ≤ ahead → pr.state = .ready ∨ pr.state = .done ∨ pr.state = .armed →
      exec (.startAt tag b tick) s =
        .next (e.state.repliedRaising 0x30 tag (.start .running s.timebase pr.generation) e.events))

/-- ARM, STOP of a wait, and the armed deadline (R47, R48, R49). A deadline that is not reached does not occur (the model's, log 2). -/
def Obligations.WaitsAreArmedCancelledAndReached : Prop :=
  (∀ (tag b : Byte) (p : ProbeId) (s : State), Accepts s 0x31 tag → b.toNat = p.val →
    let pr := s.probe p
    (pr.state = .ready → exec (.arm tag b) s = .next ((s.counted.setProbe p
      { pr with state := .armed, armedFrom := some .ready, startAt := none }).replied 0x31 tag (.arm .armed))) ∧
    (pr.state = .done → exec (.arm tag b) s = .next ((s.counted.setProbe p
      { pr with state := .armed, armedFrom := some .done, startAt := none }).replied 0x31 tag (.arm .armed))) ∧
    (pr.state = .free ∨ pr.state = .armed ∨ pr.state = .running →
      exec (.arm tag b) s = .next (s.counted.replied 0x31 tag (.denied (.badState pr.state))))) ∧
  (∀ (tag b : Byte) (p : ProbeId) (s : State), Accepts s 0x32 tag → b.toNat = p.val →
    let pr := s.probe p
    (pr.state = .armed → pr.armedFrom = some .ready → exec (.stop tag b) s = .next ((s.counted.setProbe p
      { pr with state := .ready, armedFrom := none, startAt := none }).replied 0x32 tag (.stop .ready pr.generation))) ∧
    (pr.state = .armed → pr.armedFrom = some .done → exec (.stop tag b) s = .next ((s.counted.setProbe p
      { pr with state := .done, armedFrom := none, startAt := none }).replied 0x32 tag (.stop .done pr.generation))) ∧
    (pr.state = .free ∨ pr.state = .ready ∨ pr.state = .done →
      exec (.stop tag b) s = .next (s.counted.replied 0x32 tag (.denied (.badState pr.state))))) ∧
  (∀ (p : ProbeId) (s : State), s.occasion = none →
    let e := startRun p 0 s
    ((s.probe p).state = .armed → (s.probe p).startAt = some s.timebase →
      exec (.armedDeadline p) s = .next (e.state.raise e.events).resume) ∧
    ((s.probe p).state ≠ .armed ∨ (s.probe p).startAt ≠ some s.timebase → exec (.armedDeadline p) s = .next s.resume))

/-- STOP of a run, and a coupling's: DONE with its outcome, the window closed without a sample, one END report with the partial
accumulator of a counting kind, enqueued or lost by the queue's room after the dequeue that may come before it (`State.raceDequeue`; log
8), RUN_END at the depth of its cause, and then the swap of a pending commit, which leaves the probe READY under the new plan with the
generation one more and the buffer released (R49, R58, R59, R60, R61, R147, R148). The STOP request comes after what the run's first tick
contributed (R67; log 13), and answers DONE, or READY after a swap, with the generation that its execution leaves (R198). That a cleared
level in progress is LOW is the model's (log 23). -/
def Obligations.StopEndsARunWithItsReport : Prop :=
  (∀ (s : State) (p : ProbeId) (pl : Plan) (o : RunOutcome) (depth : Nat), (s.probe p).plan = some pl →
    let u := s.raceDequeue
    let pr := u.probe p
    let flags : ReportFlags :=
      { saturated := false, settled := pr.qual.settled, level := false, illegal := pl.kind == .quad && pr.quadErrors != 0 }
    let partialAcc := if pl.kind = .count ∨ pl.kind = .updown ∨ pl.kind = .quad then some pr.acc else none
    let ended : Probe := { pr with state := .done, lastOutcome := some o, windowOpen := false, generated := pr.generated + 1 }
    let leaves (x : Probe) (q : ReportQueue) : Prop :=
      (s.pendingCommit p = none →
        stopRun p o depth s =
          { state := { u with probes := u.probes.set p.val x, rpq := q }
            events := [{ source := p, kind := .runEnd, depth := depth }] }) ∧
      (∀ new edges, s.pendingCommit p = some (new, edges) →
        stopRun p o depth s =
          { state := { u with
              probes := u.probes.set p.val { replanned x new edges with state := .ready }
              rpq := q
              staging := none }
            events := [{ source := p, kind := .runEnd, depth := depth }] })
    (u.rpq.probeTotal < 60 → u.rpq.waiting p < pl.quota → leaves ended { u.rpq with
      entries := u.rpq.entries ++ [.probe p pr.generation s.timebase s.rpq.lostBefore[p.val]
        (.runEnd flags pr.windowsDone o pr.quadErrors pr.lastSample partialAcc)]
      lostBefore := s.rpq.lostBefore.set p.val 0 }) ∧
    (60 ≤ u.rpq.probeTotal ∨ pl.quota ≤ u.rpq.waiting p → leaves { ended with lost := pr.lost + 1 } { u.rpq with
      lostBefore := s.rpq.lostBefore.set p.val (BitVec.ofNat 16 (min (s.rpq.lostBefore[p.val].toNat + 1) 65535)) })) ∧
  (∀ (tag b : Byte) (p : ProbeId) (s : State), Accepts s 0x32 tag → b.toNat = p.val → (s.probe p).state = .running →
    let e := stopRun p .stopped 0 (takeIn p s.counted)
    let g := (s.probe p).generation
    (s.pendingCommit p = none → exec (.stop tag b) s = .next (e.state.repliedRaising 0x32 tag (.stop .done g) e.events)) ∧
    (s.pendingCommit p ≠ none → exec (.stop tag b) s = .next (e.state.repliedRaising 0x32 tag (.stop .ready (g + 1)) e.events)))

/-- PROBE_RESET: the probe at the values of R2, its waiting reports removed and counted in the reply, its lost_before 0, its stage
released, and nothing else changed (R43, R63, R155; that a cleared level in progress is LOW is the model's, log 23). It may come while
another probe's completion stands between two of its offers, which then goes on (R149). A completion of its own probe that stands there is
first made whole (`continueOccasion`; R53, R68), and what it enqueued is removed with the rest. -/
def Obligations.ProbeResetClearsOneProbe : Prop :=
  ∀ (tag b : Byte) (p : ProbeId) (s u : State), Admitted s 0x33 tag → b.toNat = p.val →
    (((∀ o, s.occasion = some o → o.probe ≠ p) ∧ u = s.counted) ∨
      ((∃ o, s.occasion = some o ∧ o.probe = p) ∧ u = continueOccasion false s.counted)) →
    let cleared : Probe :=
      { state := .free, plan := none, generation := 0, armedFrom := none, startAt := none, runStart := none, windowsDone := 0,
        acc := { value := 0, saturated := false }, windowOpen := false, levelHigh := false, edgeCount := 0, countdown := 0,
        nextBoundary := 0, lastSample := none, lastOutcome := none, quadErrors := 0, generated := 0, transmitted := 0, lost := 0,
        qual := { history := [], settled := false, histogram := none } }
    ∃ w : State, exec (.probeReset tag b) s = .next (w.replied 0x33 tag
        (.probeReset (u.rpq.entries.filter (fun r => r.source == some p)).length)) ∧
      w = { u with
        probes := u.probes.set p.val cleared
        staging := w.staging
        rpq := { u.rpq with
          entries := u.rpq.entries.filter (fun r => r.source != some p), lostBefore := u.rpq.lostBefore.set p.val 0 } } ∧
      ((∃ st, u.staging = some st ∧ st.owner = p) → w.staging = none) ∧
      ((∀ st, u.staging = some st → st.owner ≠ p) → w.staging = u.staging)

/-- SWAP, which names the completion of a probe with a pending commit (the model's reading of the row, log 4): the old plan's reports in
order, then the new plan with generation +1 and the buffer released; RUNNING in a new run from this tick, with what this tick contributes
to it, when the completion did not end the run, and READY when it did (R60, R61, R103; that a cleared level in progress is LOW is the
model's, log 23). Stated with room for the reports and no dequeue between them, no coupling on the probe and nothing else waiting, as what the completion comes to when
no other claim comes between (log 7 and 8). With nothing pending the command changes nothing, and on an owner in DONE it is the swap
alone. Beside that, for any couplings, any room and any schedule: SWAP of a completion that is due is the completion, and steps 8 and 9 with a
pending commit raise the events of step 8 and then, where the run continues, RUN_START of the new run, all at depth 0 (R61, R133). Where the
completion of the pending commit is not due, SWAP changes nothing but what waits (the model's, log 2). -/
def Obligations.SwapInstallsThePendingPlan : Prop :=
  (∀ (s : State) (p : ProbeId), s.occasion = none → s.pendingCommit p = none → exec (.swap p) s = .next s.resume) ∧
  (∀ (s : State) (p : ProbeId) (new : Plan) (edges : List Sample32), s.occasion = none → s.pendingCommit p = some (new, edges) →
    (s.probe p).state = .done → exec (.swap p) s =
      .next ({ s with
        probes := s.probes.set p.val { replanned (s.probe p) new edges with state := .ready }
        staging := none } : State).resume) ∧
  (∀ (s : State) (p : ProbeId), s.occasion = none → s.pendingCommit p ≠ none → (s.probe p).state ≠ .done →
    ((s.probe p).state ≠ .running ∨ s.lfe.stepped = false ∨ s.mark p ≠ .due ∨
      ∃ pl, (s.probe p).plan = some pl ∧ ¬ CompletesNow s p pl) → exec (.swap p) s = .next s.resume) ∧
  (∀ (s : State) (p : ProbeId) (pl : Plan), Measuring s p pl → CompletesNow s p pl → s.pendingCommit p ≠ none →
    exec (.swap p) s = exec (.probeMeasurement p) s) ∧
  (∀ (s : State) (p : ProbeId) (pl new : Plan) (edges : List Sample32) (result : QualResult) (ended : Bool),
    s.pendingCommit p = some (new, edges) →
    let raises (kinds : List EventKind) : List Event := s.raised ++ kinds.map (fun k => { source := p, kind := k, depth := 0 })
    let kinds : List EventKind :=
      .window :: (match result with | .neither => [] | .becameTrue => [.settled] | .becameFalse => [.drift]) ++
        (if ended then [.runEnd] else [])
    ((s.probe p).state ≠ .running → finishWindow p pl result ended s = { s with
      raised := raises kinds
      probes := s.probes.set p.val { replanned (s.probe p) new edges with state := .ready }
      staging := none }) ∧
    ((s.probe p).state = .running → finishWindow p pl result ended s = { (startRun p 0 { s with
        probes := s.probes.set p.val (replanned (s.probe p) new edges)
        staging := none }).state with
      raised := raises (kinds ++ [.runStart]) })) ∧
  (∀ (s : State) (p : ProbeId) (pl new : Plan) (edges : List Sample32), Measuring s p pl → CompletesNow s p pl → s.uncoupled p →
    s.pendingCommit p = some (new, edges) → s.raised = [] → s.actions = [] →
    s.undisturbed → s.rpq.probeTotal + 3 ≤ 60 → s.rpq.waiting p + 3 ≤ pl.quota →
    let pr := s.probe p
    let smp := closingSample s p pl
    let wd := satInc pr.windowsDone
    let q := pr.qual.complete pl wd smp.value
    let outcome := runEndDecision pl q.result false wd
    let illegal := pl.kind == .quad && pr.quadErrors != 0
    let flags : ReportFlags := { saturated := smp.saturated, settled := q.qual.settled, level := smp.level, illegal := illegal }
    let endFlags : ReportFlags := { saturated := false, settled := q.qual.settled, level := false, illegal := illegal }
    let bodies := selectedReports pl q.result flags smp.value wd ++
      (match outcome with
        | none => []
        | some o => [.runEnd endFlags wd o pr.quadErrors (some smp) none])
    let swapped := replanned { pr with generated := pr.generated + BitVec.ofNat 32 bodies.length } new edges
    ∃ v, exec (.swap p) s = .next v ∧ exec (.probeMeasurement p) s = .next v ∧
      let t := v.finish
      t.staging = none ∧
      (outcome = none → t.probe p = firstTick new s.lfe.lines (newRun swapped new s.timebase)) ∧
      (outcome ≠ none → t.probe p = { swapped with state := .ready }) ∧
      t.rpq.entries = s.rpq.entries ++ reportsOf p pr.generation s.timebase s.rpq.lostBefore[p.val] bodies ∧
      t.rpq.lostBefore[p.val] = (if bodies = [] then s.rpq.lostBefore[p.val] else 0) ∧ t.mark p = .made ∧
      (∀ x : ProbeId, x ≠ p → t.probe x = s.probe x) ∧ t.timebase = s.timebase ∧ t.lfe = s.lfe ∧ t.cpl = s.cpl ∧ t.hli = s.hli)

/-! ### Staging -/

/-- STAGE_BEGIN by the five rows of R25; a restart is a stage newly opened (R26). -/
def Obligations.StageBeginOpensOrRestarts : Prop :=
  ∀ (tag b : Byte) (lease : BitVec 32) (p : ProbeId) (s : State), Accepts s 0x20 tag → b.toNat = p.val →
    let refused (d : Denial) := exec (.stageBegin tag b lease) s = .next (s.counted.replied 0x20 tag (.denied d))
    let deadline := s.timebase + lease.setWidth 48
    let opened := exec (.stageBegin tag b lease) s =
      .next ({ s.counted with staging := some { owner := p, stage := .opened lease deadline } }.replied 0x20 tag
        (.stageBegin deadline))
    (lease = 0 → refused (.badValue 2)) ∧
    (lease ≠ 0 → s.staging = none → opened) ∧
    (∀ st, lease ≠ 0 → s.staging = some st →
      (st.owner = p → (∀ pl es, st.stage ≠ .pending pl es) → opened) ∧
      (st.owner = p → (∃ pl es, st.stage = .pending pl es) → refused (.badPhase .pending none)) ∧
      (st.owner ≠ p → refused (.stageBusy st.owner)))

/-- The owner check of R24 comes before every other check of STAGE_PARAMS, STAGE_EDGES, STAGE_COMMIT and STAGE_ABORT, and
STAGE_ABORT releases the buffer in every phase (R42). -/
def Obligations.OnlyTheOwnerFillsAndAborts : Prop :=
  (∀ (tag b chunk mode : Byte) (record : PlanRecord) (edges : List Sample32) (p : ProbeId) (s : State) (owner : Option ProbeId),
    b.toNat = p.val → owner = s.staging.map (fun st => st.owner) → owner ≠ some p → 1 ≤ edges.length → edges.length ≤ 8 →
    (Accepts s 0x21 tag →
      exec (.stageParams tag b record) s = .next (s.counted.replied 0x21 tag (.denied (.notStaging owner)))) ∧
    (Accepts s 0x22 tag →
      exec (.stageEdges tag b chunk edges) s = .next (s.counted.replied 0x22 tag (.denied (.notStaging owner)))) ∧
    (Accepts s 0x23 tag →
      exec (.stageCommit tag b mode) s = .next (s.counted.replied 0x23 tag (.denied (.notStaging owner)))) ∧
    (Accepts s 0x24 tag → exec (.stageAbort tag b) s = .next (s.counted.replied 0x24 tag (.denied (.notStaging owner))))) ∧
  (∀ (tag b : Byte) (p : ProbeId) (stage : Stage) (s : State), Accepts s 0x24 tag → b.toNat = p.val →
    s.staging = some { owner := p, stage := stage } →
    exec (.stageAbort tag b) s = .next ({ s.counted with staging := none }.replied 0x24 tag (.stageAbort stage.phase)))

/-- STAGE_PARAMS from the owner: refused in PENDING, refused by validation, or accepted into EDGES or COMPLETE with the lease renewed
(R27, R30, R31, R32). -/
def Obligations.StageParamsReplacesThePlan : Prop :=
  ∀ (tag b : Byte) (record : PlanRecord) (p : ProbeId) (stage : Stage) (s : State), Accepts s 0x21 tag → b.toNat = p.val →
    s.staging = some { owner := p, stage := stage } →
    let refused (d : Denial) := exec (.stageParams tag b record) s = .next (s.counted.replied 0x21 tag (.denied d))
    let deadline := s.timebase + stage.lease.setWidth 48
    let accepted (next : Stage) (phase : Phase) (chunks : Nat) := exec (.stageParams tag b record) s =
      .next ({ s.counted with staging := some { owner := p, stage := next } }.replied 0x21 tag (.stageParams phase chunks deadline))
    (stage.phase = .pending → refused (.badPhase .pending none)) ∧
    (stage.phase ≠ .pending → ∀ f, validate record = .error f → refused (.param f)) ∧
    (stage.phase ≠ .pending → ∀ pl, validate record = .ok pl →
      (pl.edgeCount = 0 → accepted (.complete stage.lease deadline pl []) .complete 0) ∧
      (pl.edgeCount ≠ 0 → accepted (.edges stage.lease deadline pl [] 0) .edges ((pl.edgeCount + 7) / 8)))

/-- STAGE_EDGES from the owner, its checks in the order of R33 and the edges' order of R34. -/
def Obligations.StageEdgesTakesTheExpectedChunk : Prop :=
  ∀ (tag b chunk : Byte) (edges : List Sample32) (p : ProbeId) (s : State), Accepts s 0x22 tag → b.toNat = p.val →
    let refused (d : Denial) := exec (.stageEdges tag b chunk edges) s = .next (s.counted.replied 0x22 tag (.denied d))
    (edges.length < 1 ∨ 8 < edges.length → refused .badLength) ∧
    (1 ≤ edges.length → edges.length ≤ 8 →
      (∀ stage, s.staging = some { owner := p, stage := stage } → stage.phase ≠ .edges → refused (.badPhase stage.phase none)) ∧
      (∀ (lease : BitVec 32) (deadline : Tick) (pl : Plan) (received : List Sample32) (k : Nat),
        s.staging = some { owner := p, stage := .edges lease deadline pl received k } →
        let renewed := s.timebase + lease.setWidth 48
        let all := received ++ edges
        let unordered (i : Nat) : Prop :=
          ∃ (x y : Sample32), 1 ≤ i ∧ all[i - 1]? = some x ∧ all[i]? = some y ∧ y.toInt ≤ x.toInt
        let accepted (next : Stage) (phase : Phase) (expected : Option Nat) := exec (.stageEdges tag b chunk edges) s =
          .next ({ s.counted with staging := some { owner := p, stage := next } }.replied 0x22 tag
            (.stageEdges phase expected renewed))
        (chunk.toNat ≠ k → refused (.badPhase .edges (some k))) ∧
        (chunk.toNat = k → edges.length ≠ min 8 (pl.edgeCount - 8 * k) → refused .badLength) ∧
        (chunk.toNat = k → edges.length = min 8 (pl.edgeCount - 8 * k) →
          (∀ i, received.length ≤ i → unordered i → (∀ j, received.length ≤ j → j < i → ¬ unordered j) →
            refused (.edgeOrder (i + 1))) ∧
          ((∀ i, received.length ≤ i → ¬ unordered i) →
            (k + 1 = (pl.edgeCount + 7) / 8 → accepted (.complete lease renewed pl all) .complete none) ∧
            (k + 1 ≠ (pl.edgeCount + 7) / 8 → accepted (.edges lease renewed pl all (k + 1)) .edges (some (k + 1)))))))

/-- STAGE_COMMIT from the owner by the rows of R35, with the installation of R36 and the hold of R37 (that a cleared level in progress is
LOW, and the other cleared working values 0, is the model's, log 15 and 23). -/
def Obligations.StageCommitInstallsOrHolds : Prop :=
  ∀ (tag b mode : Byte) (p : ProbeId) (s : State), Accepts s 0x23 tag → b.toNat = p.val →
    let refused (d : Denial) := exec (.stageCommit tag b mode) s = .next (s.counted.replied 0x23 tag (.denied d))
    (∀ stage, s.staging = some { owner := p, stage := stage } → stage.phase ≠ .complete →
      refused (.badPhase stage.phase stage.expectedChunk)) ∧
    (∀ (lease : BitVec 32) (deadline : Tick) (pl : Plan) (edges : List Sample32),
      s.staging = some { owner := p, stage := .complete lease deadline pl edges } →
      let pr := s.probe p
      (1 < mode.toNat → refused (.badValue 2)) ∧
      (mode.toNat ≤ 1 → (pr.state = .free ∨ pr.state = .ready ∨ pr.state = .done) →
        exec (.stageCommit tag b mode) s =
          .next ({ s.counted with
              staging := none
              probes := s.probes.set p.val { replanned pr pl edges with state := .ready } }.replied
            0x23 tag (.stageCommit .installed (pr.generation + 1)))) ∧
      (mode.toNat ≤ 1 → pr.state = .armed → refused (.badState .armed)) ∧
      (mode = 0 → pr.state = .running → refused (.badState .running)) ∧
      (∀ cur, mode = 1 → pr.state = .running → pr.plan = some cur →
        ((cur.kind = .count ∨ cur.kind = .updown ∨ cur.kind = .quad) ∧ cur.window = 0 → refused .noBoundary) ∧
        (¬ ((cur.kind = .count ∨ cur.kind = .updown ∨ cur.kind = .quad) ∧ cur.window = 0) →
          exec (.stageCommit tag b mode) s =
            .next ({ s.counted with staging := some { owner := p, stage := .pending pl edges } }.replied 0x23 tag
              (.stageCommit .pending pr.generation)))))

/-- Validation fails at the first failing row of R21's table, with its field and reason; a record that passes every row gives the plan
whose record it is, with the reserved bits of its flags 0 (R20, R191, R194). -/
def Obligations.ValidationFollowsTheTable : Prop :=
  ∀ r : PlanRecord,
    (∀ f, validate r = .error f ↔
      ∃ c, (paramChecks r).find? (fun c => c.fails) = some c ∧ f = { reason := c.reason, field := c.field }) ∧
    ((∀ c ∈ paramChecks r, c.fails = false) → ∃ pl, validate r = .ok pl) ∧
    (∀ pl, validate r = .ok pl → pl.record = { r with flags := r.flags &&& 0x07 })

/-- LEASE_EXPIRY: at the deadline the buffer is released and STAGE_EXPIRED is enqueued, or counted lost when four system reports wait; at
any other tick, in PENDING or with the buffer released it does not occur (R28, R39, R152, R164; that the command then changes nothing
is the model's, log 2). -/
def Obligations.LeaseExpiresAtItsDeadline : Prop :=
  (∀ (s : State) (st : Staging), s.staging = some st → st.stage.deadline = some s.timebase →
    ((s.rpq.entries.filter (fun r => r.source.isNone)).length < 4 →
      exec .leaseExpiry s = .next ({ s with
        staging := none
        rpq := { s.rpq with entries := s.rpq.entries ++
          [.stageExpired s.timebase st.owner st.stage.phase (s.probe st.owner).generation] } } : State).resume) ∧
    (4 ≤ (s.rpq.entries.filter (fun r => r.source.isNone)).length →
      exec .leaseExpiry s = .next ({ s with
        staging := none
        rpq := { s.rpq with systemLost := BitVec.ofNat 16 (min (s.rpq.systemLost.toNat + 1) 65535) } } : State).resume)) ∧
  (∀ s : State, (∀ st, s.staging = some st → st.stage.deadline ≠ some s.timebase) → exec .leaseExpiry s = .next s.resume)

/-! ### The Coupling Table -/

/-- COUPLE_ADD by the six rows of R129, and COUPLE_REMOVE by R130; the probe fields above 15 are refused before the table (R129, R179).
Stated with no action of an event that the table has taken still waiting; where one waits it is taken first (R139, and
`ChainsRunUntilNothingWaits`). -/
def Obligations.CouplingRequestsKeepTheTable : Prop :=
  (∀ (tag a event b action : Byte) (s : State), Accepts s 0x40 tag → s.actions = [] →
    let refused (d : Denial) := exec (.coupleAdd tag a event b action) s = .next (s.counted.replied 0x40 tag (.denied d))
    (15 < a.toNat ∨ 15 < b.toNat → refused .badProbe) ∧
    (∀ source target : ProbeId, a.toNat = source.val → b.toNat = target.val →
      (4 < event.toNat → refused (.badValue 2)) ∧
      (event.toNat ≤ 4 → target = source → refused (.badValue 3)) ∧
      (event.toNat ≤ 4 → target ≠ source → 2 < action.toNat → refused (.badValue 4)) ∧
      (∀ (ev : EventKind) (act : Action), ev.code = event → act.code = action → target ≠ source →
        let same (c : Coupling) : Prop := c.source = source ∧ c.event = ev ∧ c.target = target
        (∀ (i : SlotId) (c : Coupling), s.cpl.slots[i.val] = some c → same c →
          (∀ (j : SlotId) (d : Coupling), j < i → s.cpl.slots[j.val] = some d → ¬ same d) → refused (.duplicate i)) ∧
        ((∀ (i : SlotId) (c : Coupling), s.cpl.slots[i.val] = some c → ¬ same c) →
          ((∀ i : SlotId, s.cpl.slots[i.val] ≠ none) → refused .tableFull) ∧
          (∀ i : SlotId, s.cpl.slots[i.val] = none → (∀ j : SlotId, j < i → s.cpl.slots[j.val] ≠ none) →
            let new : Coupling := { source := source, event := ev, target := target, action := act, fires := 0, misses := 0 }
            exec (.coupleAdd tag a event b action) s =
              .next ({ s.counted with cpl := { s.cpl with slots := s.cpl.slots.set i.val (some new) } }.replied
                0x40 tag (.coupleAdd i))))))) ∧
  (∀ (tag slot : Byte) (s : State), Accepts s 0x41 tag → s.actions = [] →
    let refused (d : Denial) := exec (.coupleRemove tag slot) s = .next (s.counted.replied 0x41 tag (.denied d))
    (23 < slot.toNat → refused (.badValue 1)) ∧
    (∀ i : SlotId, slot.toNat = i.val →
      (s.cpl.slots[i.val] = none → refused .noSuchCoupling) ∧
      (∀ c, s.cpl.slots[i.val] = some c → exec (.coupleRemove tag slot) s =
        .next ({ s.counted with cpl := { s.cpl with slots := s.cpl.slots.set i.val none } }.replied 0x41 tag (.coupleRemove c)))))

/-- A target takes an action by its state and plan kind, with the effects of R50 and the events of R136, and the coupling counts exactly
one fire or one miss (R135). STOP and SNAPSHOT of a run that began at this tick come after what the tick contributed (R67, R138; log 13). -/
def Obligations.ActionsFireOrMissByTheTargetsState : Prop :=
  (∀ (s : State) (p : ProbeId) (depth : Nat),
    let pr := s.probe p
    let miss : Acted := { effect := { state := s, events := [] }, fired := false }
    (pr.state = .ready ∨ pr.state = .done ∨ pr.state = .armed →
      takeAction p .start depth s = { effect := startRun p depth s, fired := true }) ∧
    (pr.state = .free ∨ pr.state = .running → takeAction p .start depth s = miss) ∧
    (pr.state = .running → takeAction p .stop depth s = { effect := stopRun p .linked depth (takeIn p s), fired := true }) ∧
    (∀ r : RestState, pr.state = .armed → pr.armedFrom = some r →
      takeAction p .stop depth s =
        { effect :=
            { state := s.setProbe p { pr with
                state := (match r with | .ready => .ready | .done => .done), armedFrom := none, startAt := none }
              events := [] }
          fired := true }) ∧
    (pr.state = .free ∨ pr.state = .ready ∨ pr.state = .done → takeAction p .stop depth s = miss) ∧
    (∀ pl, pr.plan = some pl → pr.state = .running → (pl.kind = .count ∨ pl.kind = .updown ∨ pl.kind = .quad) →
      let s1 := takeIn p s
      let pr1 := s1.probe p
      takeAction p .snapshot depth s =
        { effect :=
            { state := (s1.generate p (.snapshot
                { saturated := pr1.acc.saturated, settled := false, level := false,
                  illegal := pl.kind == .quad && pr1.quadErrors != 0 } pr1.acc.value)).state
              events := [] }
          fired := true }) ∧
    (pr.state ≠ .running → takeAction p .snapshot depth s = miss) ∧
    (∀ pl, pr.plan = some pl → (pl.kind = .levelTime ∨ pl.kind = .highTime ∨ pl.kind = .span ∨ pl.kind = .dropout) →
      takeAction p .snapshot depth s = miss)) ∧
  (∀ (s : State) (i : SlotId) (c : Coupling) (fired : Bool), s.cpl.slots[i.val] = some c →
    let counted : Coupling := { c with
      fires := BitVec.ofNat 16 (min (c.fires.toNat + (if fired then 1 else 0)) 65535)
      misses := BitVec.ofNat 16 (min (c.misses.toNat + (if fired then 0 else 1)) 65535) }
    countAction i fired s = { s with cpl := { s.cpl with slots := s.cpl.slots.set i.val (some counted) } })

/-- An event of depth below 4 acts through exactly the couplings that name it, one depth deeper, in one claim on the table; a deeper one
cuts them and counts each cut (R134, R137, R139). -/
def Obligations.EventsActThroughTheirCouplings : Prop :=
  ∀ (s : State) (e : Event),
    (e.depth < 4 →
      ∃ ws : List Waiting, takeEvent e s = { s with actions := s.actions ++ ws } ∧
        (∀ w : Waiting, w ∈ ws ↔
          ∃ c, s.cpl.slots[w.slot.val] = some c ∧ c.source = e.source ∧ c.event = e.kind ∧ w.target = c.target ∧
            w.action = c.action ∧ w.depth = e.depth + 1) ∧
        ws.Pairwise (fun x y => x.slot < y.slot)) ∧
    (4 ≤ e.depth →
      let named := (s.cpl.slots.toList.filter (fun o => o.any fun c => c.source == e.source && c.event == e.kind)).length
      takeEvent e s =
        { s with cpl := { s.cpl with cascadeCut := BitVec.ofNat 16 (min (s.cpl.cascadeCut.toNat + named) 65535) } })

/-- A chain takes what waits one claim at a time: of any source the oldest event that the table has not taken, or any waiting action, which
its target takes, which is counted, and whose events are raised behind the others (R65, R133, R134, R135, R138). Which comes next the schedule says. Behind a
command the chains go on until nothing waits or the schedule lets another command come first, and before the tick ends they go on until
nothing waits (R139; the schedule is the model's, log 7); the bound by which the model stops a chain is never reached. A claim on a probe
first lets a completion that stands between two offers go on to its end (R53), and a request of the table the waiting actions (R139); so
does every other request and every frame that dispatch refuses, but for a PROBE_RESET of another probe, which may come between the offers
(R149). -/
def Obligations.ChainsRunUntilNothingWaits : Prop :=
  (∀ (s : State) (i : Nat) (w : Waiting), s.actions[i]? = some w →
    let a := takeAction w.target w.action w.depth { s with actions := s.actions.eraseIdx i }
    let c := countAction w.slot a.fired a.effect.state
    takeWaiting i s = { c with raised := c.raised ++ a.effect.events }) ∧
  (∀ (s : State) (k : Nat), k ∈ s.nextEvents ↔
    ∃ e, s.raised[k]? = some e ∧ ∀ j d, j < k → s.raised[j]? = some d → d.source ≠ e.source) ∧
  (∀ s : State, s.nextEvents.Pairwise (fun x y => x < y) ∧ s.claims = s.nextEvents.length + s.actions.length) ∧
  (∀ (s : State) (i k : Nat) (e : Event), s.nextEvents[i]? = some k → s.raised[k]? = some e →
    takeClaim i s = takeEvent e { s with raised := s.raised.eraseIdx k }) ∧
  (∀ (s : State) (i : Nat), takeClaim (s.nextEvents.length + i) s = takeWaiting i s) ∧
  (∀ s : State, Calm s → s.resume = s ∧ s.finish = s) ∧
  (∀ s : State, s.occasion = none → s.claims ≠ 0 →
    let c := s.choose (s.claims + 1)
    (c.index < s.claims → s.resume = (takeClaim c.index c.state).resume) ∧ (c.index = s.claims → s.resume = c.state) ∧
    c.index ≤ s.claims) ∧
  (∀ s : State, s.occasion = none → s.claims ≠ 0 →
    let c := s.choose s.claims
    c.index < s.claims ∧ s.finish = (takeClaim c.index c.state).finish) ∧
  (∀ s : State, Calm s.finish) ∧ (∀ s : State, s.schedule = [] → Calm s.resume) ∧
  (∀ (s : State) (p : ProbeId), let u := continueOccasion false s
    u.occasion = none ∧ exec (.probeMeasurement p) s = exec (.probeMeasurement p) u ∧
    exec (.windowCompletion p) s = exec (.windowCompletion p) u ∧ exec (.swap p) s = exec (.swap p) u ∧
    exec (.armedDeadline p) s = exec (.armedDeadline p) u) ∧
  (∀ (s : State) (r : Request), let u := continueOccasion false s
    ((∀ b, r ≠ .probeReset b) → (∀ a e b c, r ≠ .coupleAdd a e b c) → (∀ b, r ≠ .coupleRemove b) → r ≠ .coupleList →
      readyFor (.ok r) s = u) ∧
    ((∃ a e b c, r = .coupleAdd a e b c) ∨ (∃ b, r = .coupleRemove b) ∨ r = .coupleList →
      readyFor (.ok r) s = takeActions u.actions.length u ∧ (readyFor (.ok r) s).actions = [])) ∧
  (∀ (s : State) (b : Byte), let another := ∃ o, s.occasion = some o ∧ b.toNat < 16 ∧ b.toNat ≠ o.probe.val
    (another → readyFor (.ok (.probeReset b)) s = s) ∧
    (¬ another → readyFor (.ok (.probeReset b)) s = continueOccasion false s)) ∧
  (∀ (s : State) (e : DispatchFault), readyFor (.error e) s = continueOccasion false s) ∧
  (∀ (s : State) (n : Nat), s.actions ≠ [] →
    let c := s.choose s.actions.length
    c.index < s.actions.length ∧ takeActions (n + 1) s = takeActions n (takeWaiting c.index c.state))

/-- What no claim that goes on behind a command changes: the timebase, the lines but for this tick's own step, the commands waiting, every
coupling's four fixed fields, the system-lost counter and all of the link but the transmitter and the sequence number; and an event that no
coupling names does nothing in the table (R127, R132, R134). -/
def Obligations.CascadesKeepTheRestOfThePart : Prop :=
  (∀ s t : State, t = s.resume ∨ t = s.finish →
    t.timebase = s.timebase ∧ (t.lfe = s.lfe ∨ (s.lfe.stepped = false ∧ ∃ pins, t.lfe = s.lfe.step pins)) ∧ t.pending = s.pending ∧
    t.rpq.systemLost = s.rpq.systemLost ∧
    t.hli = { s.hli with transmitter := t.hli.transmitter, sequence := t.hli.sequence } ∧
    ∀ i : SlotId, (t.cpl.slots[i.val]).map (fun c => (c.source, c.event, c.target, c.action)) =
      (s.cpl.slots[i.val]).map (fun c => (c.source, c.event, c.target, c.action))) ∧
  (∀ (e : Event) (s : State),
    (∀ (i : SlotId) (c : Coupling), s.cpl.slots[i.val] = some c → ¬ (c.source = e.source ∧ c.event = e.kind)) → takeEvent e s = s)

/-! ### Reports, quotas and credits -/

/-- A probe report offered: enqueued with lost_before while the probe share and the plan's quota leave room, lost and counted otherwise, by
the queue as it stands after the dequeue that may come before the offer (R144, R147, R148, R154). That dequeue can come only where the
transmitter could take a report, and the schedule says whether it does (the model's, log 8). -/
def Obligations.ProbeReportsAreEnqueuedOrLost : Prop :=
  (∀ (s : State) (p : ProbeId) (pl : Plan) (body : ReportBody), (s.probe p).plan = some pl →
    let u := s.raceDequeue
    let pr := u.probe p
    let total := (u.rpq.entries.filter (fun r => r.source.isSome)).length
    let waiting := (u.rpq.entries.filter (fun r => r.source == some p)).length
    (total < 60 → waiting < pl.quota →
      s.generate p body =
        { state := { u with
            probes := u.probes.set p.val { pr with generated := pr.generated + 1 }
            rpq := { u.rpq with
              entries := u.rpq.entries ++ [.probe p pr.generation s.timebase s.rpq.lostBefore[p.val] body]
              lostBefore := s.rpq.lostBefore.set p.val 0 } }
          lost := false }) ∧
    (60 ≤ total ∨ pl.quota ≤ waiting →
      s.generate p body =
        { state := { u with
            probes := u.probes.set p.val { pr with generated := pr.generated + 1, lost := pr.lost + 1 }
            rpq := { u.rpq with
              lostBefore := s.rpq.lostBefore.set p.val (BitVec.ofNat 16 (min (s.rpq.lostBefore[p.val].toNat + 1) 65535)) } }
          lost := true })) ∧
  (∀ s : State, s.canDequeue = true ↔
    s.hli.transmitter = none ∧ s.hli.replies = [] ∧ s.rpq.credits ≠ 0 ∧ s.rpq.entries ≠ []) ∧
  (∀ s : State, s.canDequeue = false ∨ s.schedule = [] → s.raceDequeue = s) ∧
  (∀ (s : State) (n : Nat) (rest : List Nat), s.canDequeue = true → s.schedule = n :: rest →
    (n % 2 = 0 → s.raceDequeue = { s with schedule := rest }) ∧
    (n % 2 = 1 → s.raceDequeue = ({ s with schedule := rest } : State).dequeue ∧
      exec .reportDequeue { s with schedule := rest } = .next s.raceDequeue.resume))

/-- REPORT_DEQUEUE: with the transmitter free, no reply waiting, credits above 0 and a report waiting, the oldest report leaves as a frame
with the sequence number (R160, R161); RQ is high exactly while a report waits and credits are above 0 (R162). Otherwise the command
changes nothing (the model's, log 2), and a dequeue inside another operation is this one or none (R149, R183; log 8). -/
def Obligations.ReportsLeaveOldestFirstOnCredit : Prop :=
  (∀ (s : State) (r : Report) (rest : List Report), s.hli.transmitter = none → s.hli.replies = [] → s.rpq.credits ≠ 0 →
    s.rpq.entries = r :: rest →
    exec .reportDequeue s = .next ({ s with
      rpq := { s.rpq with entries := rest, credits := s.rpq.credits - 1 }
      hli := { s.hli with
        transmitter := some { bytes := frameBytes r.kind s.hli.sequence r.data, begun := s.timebase, resetReply := false }
        sequence := s.hli.sequence + 1 }
      probes := match r.source with
        | none => s.probes
        | some p => s.probes.set p.val { s.probe p with transmitted := (s.probe p).transmitted + 1 } } : State).resume) ∧
  (∀ s : State, s.hli.transmitter ≠ none ∨ s.hli.replies ≠ [] ∨ s.rpq.credits = 0 ∨ s.rpq.entries = [] →
    exec .reportDequeue s = .next s.resume ∧ s.raceDequeue = s) ∧
  (∀ s : State, s.rq = true ↔ s.rpq.entries ≠ [] ∧ s.rpq.credits ≠ 0) ∧
  (∀ s : State, ∃ sch : List Nat, s.raceDequeue = { s with schedule := sch } ∨
    exec .reportDequeue { s with schedule := sch } = .next s.raceDequeue.resume)

/-- CREDIT by the rows of R158; STATUS with clear yes, which answers before it clears the nine counters, and with an undefined clear
(R185, R186); DEVICE_RESET, which answers and leaves a reset pending (R187). -/
def Obligations.LinkRequestsSetCreditsAndClear : Prop :=
  (∀ (tag mode n : Byte) (s : State), Accepts s 0x03 tag →
    let refused (d : Denial) := exec (.credit tag mode n) s = .next (s.counted.replied 0x03 tag (.denied d))
    let becomes (c : BitVec 8) := exec (.credit tag mode n) s =
      .next ({ s.counted with rpq := { s.rpq with credits := c } }.replied 0x03 tag
        (.credit c (s.rpq.entries.filter (fun r : Report => r.source.isSome)).length
          (s.rpq.entries.filter (fun r : Report => r.source.isNone)).length))
    (1 < mode.toNat → refused (.badValue 1)) ∧
    (mode = 0 → n = 0 → refused (.badValue 2)) ∧
    (mode = 0 → n ≠ 0 → becomes (BitVec.ofNat 8 (min (s.rpq.credits.toNat + n.toNat) 255))) ∧
    (mode = 1 → becomes n)) ∧
  (∀ (tag clear : Byte) (s : State), Accepts s 0x01 tag →
    (1 < clear.toNat → exec (.status tag clear) s = .next (s.counted.replied 0x01 tag (.denied (.badValue 1)))) ∧
    (clear = 1 → exec (.status tag clear) s =
      .next ({ s with
          hli := { s.hli with counters := LinkCounters.mk 0 0 0 0 0 0 0 }
          rpq := { s.rpq with systemLost := 0 }
          cpl := { s.cpl with cascadeCut := 0 } }.replied 0x01 tag (.status s.counted.statusView)))) ∧
  (∀ (tag : Byte) (s : State), Accepts s 0x02 tag →
    exec (.deviceReset tag) s =
      .next ({ s.counted with hli := { s.counted.hli with resetPending := true } }.replied 0x02 tag .deviceReset))

/-! ### The host link -/

/-- The check of R170: the register, one bit, one byte, the test value, and the frame it closes (R169). -/
def Obligations.FrameCheckIsTheManualsCyclicCheck : Prop :=
  crc [0x31, 0x32, 0x33, 0x34, 0x35, 0x36, 0x37, 0x38, 0x39] = 0x29B1#16 ∧ crc [] = 0xFFFF#16 ∧
  (∀ (bytes : List Byte) (b : Byte), crc (bytes ++ [b]) =
    [b.getLsbD 7, b.getLsbD 6, b.getLsbD 5, b.getLsbD 4, b.getLsbD 3, b.getLsbD 2, b.getLsbD 1, b.getLsbD 0].foldl crcBit
      (crc bytes)) ∧
  (∀ (reg : BitVec 16) (bit : Bool),
    (bit ≠ reg.getLsbD 15 → crcBit reg bit = (reg <<< 1) ^^^ 0x1021#16) ∧ (bit = reg.getLsbD 15 → crcBit reg bit = reg <<< 1)) ∧
  (∀ (kind tag : Byte) (data : List Byte),
    let check := crc (BitVec.ofNat 8 (data.length + 2) :: kind :: tag :: data)
    frameBytes kind tag data = [0xB6#8, BitVec.ofNat 8 (data.length + 2), kind, tag] ++ data ++
      [check.setWidth 8, (check >>> 8).setWidth 8])

/-- CHARACTER_RECEIVED by the rows of R171; the silence is timed from the byte (R172), and a good frame goes to acceptance as
FRAME_ACCEPT of its KIND, TAG and DATA (R175). -/
def Obligations.FrameReceiverFollowsItsTable : Prop :=
  ∀ (b : Byte) (s : State),
    let idle : HostLink := { s.hli with byteRx := { s.hli.byteRx with phase := .watching, awaited := false, delivered := none } }
    let hunt : HostLink := { idle with frameRx := .hunt, silenceFrom := none }
    let goes (rx : FrameReceiver) := exec (.characterReceived b) s =
      .next ({ s with hli := { idle with frameRx := rx, silenceFrom := some s.timebase } } : State).resume
    (s.hli.frameRx = .hunt → b = 0xB6 → goes .length) ∧
    (s.hli.frameRx = .hunt → b ≠ 0xB6 → exec (.characterReceived b) s = .next ({ s with hli := idle } : State).resume) ∧
    (s.hli.frameRx = .length → 2 ≤ b.toNat → b.toNat ≤ 250 → goes (.body b.toNat [])) ∧
    (s.hli.frameRx = .length → (b.toNat < 2 ∨ 250 < b.toNat) → exec (.characterReceived b) s =
      .next ({ s with hli := { hunt with
        counters := { s.hli.counters with lengthError := satInc s.hli.counters.lengthError } } } : State).resume) ∧
    (∀ len bytes, s.hli.frameRx = .body len bytes → bytes.length + 1 < len → goes (.body len (bytes ++ [b]))) ∧
    (∀ len bytes, s.hli.frameRx = .body len bytes → len ≤ bytes.length + 1 → goes (.check len (bytes ++ [b]) none)) ∧
    (∀ len bytes, s.hli.frameRx = .check len bytes none → goes (.check len bytes (some b))) ∧
    (∀ len bytes low, s.hli.frameRx = .check len bytes (some low) →
      let received := low.toNat + 256 * b.toNat
      (received ≠ (crc (BitVec.ofNat 8 len :: bytes)).toNat → exec (.characterReceived b) s =
        .next ({ s with hli := { hunt with
          counters := { s.hli.counters with checkError := satInc s.hli.counters.checkError } } } : State).resume) ∧
      (∀ kind tag data, bytes = kind :: tag :: data → received = (crc (BitVec.ofNat 8 len :: bytes)).toNat →
        exec (.characterReceived b) s = exec (.frameAccept kind tag data) { s with hli := hunt }))

/-- The bytes of a frame, delivered one by one to a receiver in HUNT, come to the same as FRAME_ACCEPT of its KIND, TAG and DATA, for
every DATA a frame can hold (R169, R170, R171, R175). -/
def Obligations.DeliveredBytesMakeTheFrame : Prop :=
  ∀ (kind tag : Byte) (data : List Byte) (s : State), data.length ≤ 248 → s.hli.frameRx = .hunt →
    Host.Outcome.next (deliver s (frameBytes kind tag data)).resume =
      exec (.frameAccept kind tag data)
        { s with hli := { s.hli with
            byteRx := { s.hli.byteRx with phase := .watching, awaited := false, delivered := none }
            frameRx := .hunt
            silenceFrom := none } }

/-- A character on LRX at the part's own rate, with either stop bit, sampled at the middles of its bits: the byte is delivered, or the
character discarded, at the middle of its stop bit and not before, no break is seen, and the character is awaited exactly from the tick
after its start bit is confirmed (R167, R168, R172, R173). A fall that the middle of the start bit finds high is noise and is ignored
(R168). A low is due as a break exactly from the tick 320 × D after its fall (R173). -/
def Obligations.CharactersAreSampledAtTheMiddleOfTheirBits : Prop :=
  ∀ (D : Nat) (fall : Tick) (rx : ByteReceiver), D ∈ [1, 4, 16, 64] →
    let after (level : Nat → Bool) (n : Nat) : ByteReceiver :=
      (List.range n).foldl (fun r i => r.sample (16 * D) (320 * D) (fall + BitVec.ofNat 48 i) (level i)) rx
    (∀ (b : Byte) (stop : Bool), rx.phase = .watching → rx.level = true →
      let level (i : Nat) : Bool := if i / (16 * D) = 0 then false else if i / (16 * D) ≤ 8 then b.getLsbD (i / (16 * D) - 1) else stop
      (∀ n, 1 ≤ n → n ≤ 9 * (16 * D) + 8 * D →
        (after level n).delivered = none ∧ (after level n).discarded = false ∧ (after level n).breakDue = false) ∧
      (∀ n, 1 ≤ n → n ≤ 9 * (16 * D) + 8 * D + 1 → ((after level n).awaited = true ↔ 8 * D + 2 ≤ n)) ∧
      (after level (9 * (16 * D) + 8 * D + 1)).delivered = (if stop then some b else none) ∧
      (after level (9 * (16 * D) + 8 * D + 1)).discarded = !stop ∧
      (after level (9 * (16 * D) + 8 * D + 1)).phase = (if stop then .watching else .waitingHigh)) ∧
    (∀ level : Nat → Bool, rx.phase = .watching → rx.level = true → level 0 = false → level (8 * D) = true →
      (∀ n, 1 ≤ n → n ≤ 8 * D → (after level n).phase = .confirming fall) ∧ (after level (8 * D + 1)).phase = .watching ∧
      ∀ n, 1 ≤ n → n ≤ 8 * D + 1 →
        (after level n).delivered = none ∧ (after level n).discarded = false ∧ (after level n).awaited = false) ∧
    (rx.level = true → rx.breakCounted = false → ∀ n, n < 2 ^ 48 →
      ((after (fun _ => false) (n + 1)).breakDue = true ↔ 320 * D ≤ n))

/-- Decoding the KIND and DATA that the layouts give a request gives that request back, every field at every value (R191 to R194); a
chunk of no edge or of more than eight is refused with BAD_LENGTH (R179, R193). -/
def Obligations.DecodingAnEncodedRequestGivesItBack : Prop :=
  (∀ r : Request, r.lengthAllowed = true → decodeRequest r.kind.code r.data = .ok r) ∧
  (∀ r : Request, r.lengthAllowed = false → decodeRequest r.kind.code r.data = .error .badLength)

/-- Every request command is the good frame that carries it: FRAME_ACCEPT of its kind's code, its tag and its DATA (R175, R179, R193;
that a request row is taken as its frame is the model's, log 5). -/
def Obligations.RequestCommandsAreTheirFrames : Prop :=
  ∀ (r : Request) (tag : Byte) (s : State), exec (requestCommand tag r) s = exec (.frameAccept r.kind.code tag r.data) s

/-- A good frame ends in one of four ways, tested in the order of R175, each counted once in good-frame (R174, R175, R178); a frame that is
executed is executed by the state its request finds (`readyFor`; R53, R139, R149), and claims that wait go on after it (log 7). -/
def Obligations.GoodFramesEndInOneOfFourWays : Prop :=
  ∀ (kind tag : Byte) (data : List Byte) (s : State),
    let c := s.counted
    (s.hli.resetPending = true → exec (.frameAccept kind tag data) s = .next c.resume) ∧
    (s.hli.resetPending = false → 4 ≤ s.hli.replies.length → exec (.frameAccept kind tag data) s =
      .next ({ c with hli := { c.hli with
        counters := { c.hli.counters with busyDrop := satInc c.hli.counters.busyDrop } } } : State).resume) ∧
    (∀ e, s.hli.resetPending = false → s.hli.replies.length < 4 → tag ≠ 0 → e ∈ s.hli.cache → e.tag = tag → e.kind = kind →
      (∀ e' ∈ s.hli.cache, e'.tag = tag → e' = e) → exec (.frameAccept kind tag data) s =
        .next ({ c with hli := { c.hli with
          replies := s.hli.replies ++ [e.reply]
          counters := { c.hli.counters with replay := satInc c.hli.counters.replay } } } : State).resume) ∧
    (Admitted s kind tag →
      let r := decodeRequest kind data
      let a := dispatch r (readyFor r c)
      exec (.frameAccept kind tag data) s = .next (a.state.repliedRaising kind tag a.reply a.events)) ∧
    (Accepts s kind tag → s.actions = [] → readyFor (decodeRequest kind data) c = c)

/-- The three checks of dispatch, in order (R179). -/
def Obligations.DispatchChecksKindLengthAndProbe : Prop :=
  ∀ (kind tag : Byte) (data : List Byte) (s : State), Accepts s kind tag →
    let refused (d : Denial) := exec (.frameAccept kind tag data) s = .next (s.counted.replied kind tag (.denied d))
    let oneByte : List Byte := [0x24, 0x31, 0x32, 0x33, 0x34, 0x35, 0x39]
    ((∀ k : RequestKind, k.code ≠ kind) → refused .badKind) ∧
    (∀ k : RequestKind, k.code = kind → (∀ r : Request, r.kind = k → r.lengthAllowed = true → r.data.length ≠ data.length) →
      refused .badLength) ∧
    (15 < (byteField data 0).toNat →
      ((kind ∈ oneByte ∧ data.length = 1) ∨ (kind = 0x30 ∧ (data.length = 1 ∨ data.length = 7)) ∨ (kind = 0x20 ∧ data.length = 5) ∨
        (kind = 0x21 ∧ data.length = 25) ∨ (kind = 0x22 ∧ data.length ∈ [6, 10, 14, 18, 22, 26, 30, 34]) ∨
        (kind = 0x23 ∧ data.length = 2) ∨ (kind = 0x38 ∧ data.length = 2) ∨ (kind = 0x40 ∧ data.length = 4 ∧ s.actions = [])) →
      refused .badProbe) ∧
    (kind = 0x40 → data.length = 4 → s.actions = [] → 15 < (byteField data 2).toNat → refused .badProbe)

/-- The bytes of every reply and report (R191, R192, R195, R196): the fields of the replies to PROBE_READ, STATUS, LINE_READ, SNAPSHOT and
HIST_READ and of the probe reports at their offsets, little-endian; every refusal; the short OK replies; the couplings of COUPLE_REMOVE and
COUPLE_LIST; BOOT and STAGE_EXPIRED; and the report kinds. The reply to STOP has the two bytes of R195's table, which gives no place to the
generation that R198 names (the model's reading of the two rules, log 25). -/
def Obligations.RepliesAndReportsHaveTheirLayouts : Prop :=
  let holds (d : List Byte) (off n v : Nat) : Prop := leField d off n = v
  (∀ (pr : Probe) (pl : Plan) (w : Nat), pr.plan = some pl → pr.state ≠ .free → w < 256 → pr.qual.history.length ≤ 8 →
    let d := (Reply.probeRead pr w).data
    let shown := pr.state = .running ∨ pr.state = .done
    d.length = 73 + 4 * pr.qual.history.length ∧ holds d 0 1 0 ∧ holds d 1 1 pr.state.code.toNat ∧
    (d.drop 2).take 24 = pl.record.bytes ∧ holds d 26 1 pr.generation.toNat ∧
    (byteField d 27).getLsbD 0 = pr.armedFrom.isSome ∧ (byteField d 27).getLsbD 1 = pr.startAt.isSome ∧
    (byteField d 27).getLsbD 2 = pr.runStart.isSome ∧ (byteField d 27).getLsbD 3 = pr.lastSample.isSome ∧
    (byteField d 27).getLsbD 4 = pr.lastOutcome.isSome ∧ ((byteField d 27).getLsbD 5 = true ↔ shown) ∧
    ((byteField d 27).getLsbD 6 = true ↔ shown ∧ (pl.kind = .levelTime ∨ pl.kind = .highTime ∨ pl.kind = .span)) ∧
    (byteField d 27).getLsbD 7 = false ∧
    (∀ r, pr.armedFrom = some r → holds d 28 1 r.toState.code.toNat) ∧ (pr.armedFrom = none → holds d 28 1 0) ∧
    holds d 29 6 (pr.startAt.getD 0).toNat ∧ holds d 35 6 (pr.runStart.getD 0).toNat ∧ holds d 41 3 pr.windowsDone.toNat ∧
    (shown → holds d 44 4 pr.acc.value.toNat ∧ holds d 48 1 pr.acc.saturated.toNat) ∧ (¬ shown → holds d 44 6 0) ∧
    (shown → (pl.kind = .levelTime ∨ pl.kind = .highTime ∨ pl.kind = .span) → holds d 49 1 pr.windowOpen.toNat) ∧
    (pl.kind ≠ .levelTime → pl.kind ≠ .highTime → pl.kind ≠ .span → holds d 49 1 0) ∧
    (∀ x, pr.lastSample = some x → holds d 50 4 x.value.toNat ∧ holds d 54 1 (x.saturated.toNat + 2 * x.level.toNat)) ∧
    (pr.lastSample = none → holds d 50 5 0) ∧ (∀ o, pr.lastOutcome = some o → holds d 55 1 o.code.toNat) ∧
    (pr.lastOutcome = none → holds d 55 1 0) ∧
    holds d 56 2 pr.quadErrors.toNat ∧ holds d 58 4 pr.generated.toNat ∧ holds d 62 4 pr.transmitted.toNat ∧
    holds d 66 4 pr.lost.toNat ∧ holds d 70 1 w ∧ holds d 71 1 pr.qual.settled.toNat ∧ holds d 72 1 pr.qual.history.length ∧
    ∀ i (hi : i < pr.qual.history.length), holds d (73 + 4 * i) 4 (pr.qual.history[i]).toNat) ∧
  (∀ (pr : Probe) (w : Nat), pr.state = .free → (Reply.probeRead pr w).data = [0x00, 0x00]) ∧
  (∀ v : StatusView, v.probeTotal < 256 → v.systemTotal < 256 →
    let d := (Reply.status v).data
    d.length = 30 ∧ holds d 0 1 0 ∧ holds d 1 2 v.counters.goodFrame.toNat ∧ holds d 3 2 v.counters.checkError.toNat ∧
    holds d 5 2 v.counters.lengthError.toNat ∧ holds d 7 2 v.counters.gapError.toNat ∧ holds d 9 2 v.counters.lineBreak.toNat ∧
    holds d 11 2 v.counters.busyDrop.toNat ∧ holds d 13 2 v.counters.replay.toNat ∧ holds d 15 2 v.systemLost.toNat ∧
    holds d 17 2 v.cascadeCut.toNat ∧ holds d 19 1 v.probeTotal ∧ holds d 20 1 v.systemTotal ∧ holds d 21 1 v.credits.toNat ∧
    (v.staging = none → holds d 22 2 0xFFFF) ∧
    (∀ st, v.staging = some st → holds d 22 1 st.owner.val ∧ holds d 23 1 st.stage.phase.code.toNat) ∧ holds d 24 6 v.now.toNat) ∧
  (∀ (now : Tick) (lines : Vector Line 16) (thresholds : Vector Nat 4), (∀ k : Fin 4, thresholds[k.val] ≤ 4095) →
    let d := (Reply.lineRead now lines thresholds).data
    d.length = 35 ∧ holds d 0 1 0 ∧ holds d 1 6 now.toNat ∧
    (∀ i : LineId, ((leField d 7 2).testBit i.val = (lines[i.val]).raw) ∧ ((leField d 9 2).testBit i.val = (lines[i.val]).filtered) ∧
      holds d (11 + i.val) 1 (lines[i.val]).selection.val) ∧
    ∀ k : Fin 4, holds d (27 + 2 * k.val) 2 thresholds[k.val]) ∧
  (∀ (acc : Accumulator) (wd : BitVec 24) (q : BitVec 16) (now : Tick),
    let d := (Reply.snapshot acc wd q now).data
    d.length = 17 ∧ holds d 0 1 0 ∧ holds d 1 4 acc.value.toNat ∧ holds d 5 1 acc.saturated.toNat ∧ holds d 6 3 wd.toNat ∧ holds d 9 2 q.toNat ∧
    holds d 11 6 now.toNat) ∧
  (∀ (g : BitVec 8) (n : Nat) (half : Byte) (now : Tick) (total : BitVec 32) (es bs : List Sample32), n < 256 →
    let d := (Reply.histRead g n half now total es bs).data
    d.length = 14 + 4 * (es.length + bs.length) ∧ holds d 0 1 0 ∧ holds d 1 1 g.toNat ∧ holds d 2 1 n ∧ holds d 3 1 half.toNat ∧
    holds d 4 6 now.toNat ∧ holds d 10 4 total.toNat ∧
    (∀ i (hi : i < es.length), holds d (14 + 4 * i) 4 (es[i]).toNat) ∧
    ∀ i (hi : i < bs.length), holds d (14 + 4 * es.length + 4 * i) 4 (bs[i]).toNat) ∧
  (∀ (p : ProbeId) (g : BitVec 8) (stamp : Tick) (lb : BitVec 16) (body : ReportBody),
    let d := (Report.probe p g stamp lb body).data
    let header (f : ReportFlags) : Prop :=
      holds d 0 1 p.val ∧ holds d 1 1 g.toNat ∧ holds d 2 6 stamp.toNat ∧ holds d 8 2 lb.toNat ∧
      holds d 10 1 (f.saturated.toNat + 2 * f.settled.toNat + 4 * f.level.toNat + 8 * f.illegal.toNat)
    (∀ f v wd, (body = .window f v wd ∨ body = .settle f v wd ∨ body = .drift f v wd) →
      d.length = 18 ∧ header f ∧ holds d 11 4 v.toNat ∧ holds d 15 3 wd.toNat) ∧
    (∀ f v, body = .snapshot f v → d.length = 15 ∧ header f ∧ holds d 11 4 v.toNat) ∧
    (∀ f wd o q smp acc, body = .runEnd f wd o q smp acc →
      d.length = 28 ∧ header f ∧ holds d 11 3 wd.toNat ∧ holds d 14 1 o.code.toNat ∧ holds d 15 2 q.toNat ∧
      holds d 17 1 (smp.isSome.toNat + 2 * acc.isSome.toNat) ∧
      (∀ x, smp = some x → holds d 18 4 x.value.toNat ∧ holds d 22 1 (x.saturated.toNat + 2 * x.level.toNat)) ∧
      (smp = none → holds d 18 5 0) ∧
      (∀ a, acc = some a → holds d 23 4 a.value.toNat ∧ holds d 27 1 a.saturated.toNat) ∧ (acc = none → holds d 23 5 0)) ∧
    (Report.probe p g stamp lb body).kind = (match body with
      | .window _ _ _ => 0x60 | .settle _ _ _ => 0x61 | .drift _ _ _ => 0x62 | .runEnd _ _ _ _ _ _ => 0x63 | .snapshot _ _ => 0x64)) ∧
  (∀ (cause : ResetCause) (stamp : Tick) (p : ProbeId) (ph : Phase) (g : BitVec 8),
    (Report.boot cause).kind = 0x65 ∧
    (Report.boot cause).data =
      [0xFF, 0, 0, 0, 0, 0, 0, (match cause with | .pin => 0x00 | .request => 0x01), 0x01, 16, 16, 64, 24] ∧
    (Report.stageExpired stamp p ph g).kind = 0x66 ∧
    let d := (Report.stageExpired stamp p ph g).data
    d.length = 10 ∧ holds d 0 1 0xFF ∧ holds d 1 6 stamp.toNat ∧ holds d 7 1 p.val ∧ holds d 8 1 ph.code.toNat ∧ holds d 9 1 g.toNat) ∧
  (∀ (st : ProbeState) (n : Nat) (f : ParamFault) (p : ProbeId) (ph : Phase) (k : Nat) (slot : SlotId),
    let bytes (d : Denial) := (Reply.denied d).data
    bytes .badKind = [0x01] ∧ bytes .badLength = [0x02] ∧ bytes .badProbe = [0x03] ∧ bytes (.badState st) = [0x04, st.code] ∧
    bytes (.badValue n) = [0x05, BitVec.ofNat 8 n] ∧ bytes (.param f) = [0x06, f.reason.code, BitVec.ofNat 8 f.field] ∧
    bytes (.stageBusy p) = [0x07, BitVec.ofNat 8 p.val] ∧ bytes (.notStaging (some p)) = [0x08, BitVec.ofNat 8 p.val] ∧
    bytes (.notStaging none) = [0x08, 0xFF] ∧ bytes (.badPhase ph (some k)) = [0x09, ph.code, BitVec.ofNat 8 k] ∧
    bytes (.badPhase ph none) = [0x09, ph.code, 0xFF] ∧ bytes (.edgeOrder n) = [0x0A, BitVec.ofNat 8 n] ∧ bytes .noBoundary = [0x0B] ∧
    bytes .tableFull = [0x0C] ∧ bytes .noSuchCoupling = [0x0D] ∧ bytes (.duplicate slot) = [0x0E, BitVec.ofNat 8 slot.val]) ∧
  (∀ (now : Tick) (c g profile : BitVec 8) (m n : Nat) (l : LineId) (sel : Fin 5) (level : Bool) (ph : Phase) (st : ProbeState)
      (threshold : BitVec 16) (total : BitVec 32) (slot : SlotId),
    let tick : List Byte := leBytes 6 now.toNat
    (Reply.deviceReset).data = [0x00] ∧ (Reply.credit c m n).data = [0x00, c, BitVec.ofNat 8 m, BitVec.ofNat 8 n] ∧
    (Reply.time now).data = 0x00 :: tick ∧
    (Reply.lineSet l sel level).data = [0x00, BitVec.ofNat 8 l.val, BitVec.ofNat 8 sel.val, if level then 0x01 else 0x00] ∧
    (Reply.profileSet profile threshold n).data = [0x00, profile] ++ leBytes 2 threshold.toNat ++ [BitVec.ofNat 8 n] ∧
    (Reply.stageBegin now).data = 0x00 :: tick ∧ (Reply.stageParams ph n now).data = [0x00, ph.code, BitVec.ofNat 8 n] ++ tick ∧
    (Reply.stageEdges ph (some n) now).data = [0x00, ph.code, BitVec.ofNat 8 n] ++ tick ∧
    (Reply.stageEdges ph none now).data = [0x00, ph.code, 0xFF] ++ tick ∧
    (Reply.stageCommit .installed g).data = [0x00, 0x00, g] ∧ (Reply.stageCommit .pending g).data = [0x00, 0x01, g] ∧
    (Reply.stageAbort ph).data = [0x00, ph.code] ∧ (Reply.start st now g).data = [0x00, st.code] ++ tick ++ [g] ∧
    (Reply.arm st).data = [0x00, st.code] ∧
    (Reply.stop st g).data = [0x00, st.code] ∧
    (Reply.probeReset n).data = [0x00, BitVec.ofNat 8 n] ∧ (Reply.histClear g total).data = [0x00, g] ++ leBytes 4 total.toNat ∧
    (Reply.coupleAdd slot).data = [0x00, BitVec.ofNat 8 slot.val]) ∧
  (∀ (c : Coupling) (occ : List (SlotId × Coupling)), occ.length ≤ 24 →
    let r := (Reply.coupleRemove c).data
    let d := (Reply.coupleList occ).data
    r.length = 9 ∧ holds r 0 1 0 ∧ holds r 1 1 c.source.val ∧ holds r 2 1 c.event.code.toNat ∧ holds r 3 1 c.target.val ∧
    holds r 4 1 c.action.code.toNat ∧ holds r 5 2 c.fires.toNat ∧ holds r 7 2 c.misses.toNat ∧
    d.length = 2 + 9 * occ.length ∧ holds d 0 1 0 ∧ holds d 1 1 occ.length ∧
    ∀ i (hi : i < occ.length), holds d (2 + 9 * i) 1 (occ[i]).1.val ∧
      (d.drop (3 + 9 * i)).take 8 = ((Reply.coupleRemove (occ[i]).2).data).drop 1) ∧
  ([ProbeState.free, .ready, .armed, .running, .done].map (fun x => x.code) = [0x00, 0x01, 0x02, 0x03, 0x04] ∧
    [Phase.opened, .edges, .complete, .pending].map (fun x => x.code) = [0x00, 0x01, 0x02, 0x03] ∧
    [RunOutcome.settled, .limit, .stopped, .linked, .loss].map (fun x => x.code) = [0x00, 0x01, 0x02, 0x03, 0x04] ∧
    [EventKind.runStart, .window, .settled, .drift, .runEnd].map (fun x => x.code) = [0x00, 0x01, 0x02, 0x03, 0x04] ∧
    [Action.start, .stop, .snapshot].map (fun x => x.code) = [0x00, 0x01, 0x02] ∧
    [ParamReason.kindUnknown, .lineRange, .bRequired, .bNotAllowed, .windowRequired, .windowNotAllowed, .spanRange, .spanNotAllowed,
        .minOverMax, .qualDepthRange, .qualNotAllowed, .relNotAllowed, .tolRange, .selectRange, .quotaRange, .edgesRange,
        .edgesNotAllowed].map (fun x => x.code) =
      [0x01, 0x02, 0x03, 0x04, 0x05, 0x06, 0x07, 0x08, 0x09, 0x0A, 0x0B, 0x0C, 0x0D, 0x0E, 0x0F, 0x10, 0x11])

/-- A reply enters the queue as the newest, with the top bit of the frame's KIND set and its tag; with a tag that is not 0 it is stored:
in place of an entry of its tag, in a new entry, or in place of the oldest, and always as the newest (R177, R181, R182). It waits with the
fields it carries, STOP's generation among them (R198; log 25), and its DATA is formed from them. -/
def Obligations.RepliesEnterTheQueueAndTheCache : Prop :=
  (∀ (w : State) (kind tag : Byte) (r : Reply), ∃ cache, w.enterReply kind tag r =
      { w with hli := { w.hli with
        replies := w.hli.replies ++ [{ kind := kind ||| 0x80, tag := tag, reply := r }], cache := cache } } ∧
    (tag = 0 → cache = w.hli.cache) ∧
    (tag ≠ 0 → cache = storeReply w.hli.cache
      { tag := tag, kind := kind, reply := { kind := kind ||| 0x80, tag := tag, reply := r } })) ∧
  (∀ m : Message, m.data = m.reply.data) ∧
  (∀ (cache : List CacheEntry) (e : CacheEntry), cache.length ≤ 4 → (cache.map (fun x => x.tag)).Nodup →
    (∀ older newer x, cache = older ++ x :: newer → x.tag = e.tag → storeReply cache e = older ++ newer ++ [e]) ∧
    ((∀ x ∈ cache, x.tag ≠ e.tag) → cache.length < 4 → storeReply cache e = cache ++ [e]) ∧
    (∀ oldest rest, (∀ x ∈ cache, x.tag ≠ e.tag) → cache.length = 4 → cache = oldest :: rest → storeReply cache e = rest ++ [e]))

/-- GAP_ERROR, BREAK and CHARACTER_DISCARDED (R168, R172, R173). A character whose start bit was confirmed before this tick defers the gap
error, one confirmed at it does not (R172; `awaited`). Where the silence has not reached its limit, a character is awaited or the receiver
is in HUNT, and where the low period is already counted, the command changes nothing more (the model's, log 2 and 6). -/
def Obligations.LinkErrorsReturnTheReceiverToHunt : Prop :=
  (∀ s : State, let due := s.hli.frameRx ≠ .hunt ∧ s.hli.byteRx.awaited = false ∧
      ∃ since, s.hli.silenceFrom = some since ∧ 2560 * s.hli.divisor ≤ (s.timebase - since).toNat
    (due → exec .gapError s = .next ({ s with hli := { s.hli with
      frameRx := .hunt, silenceFrom := none
      counters := { s.hli.counters with gapError := satInc s.hli.counters.gapError } } } : State).resume) ∧
    (¬ due → exec .gapError s = .next s.resume)) ∧
  (∀ (rx : ByteReceiver) (bitTime breakLength : Nat) (now : Tick) (lrx : Bool),
    (rx.sample bitTime breakLength now lrx).awaited = true ↔ ∃ fall bits, rx.phase = .receiving fall bits) ∧
  (∀ s : State,
    (s.hli.byteRx.breakCounted = false → exec .lineBreak s = .next ({ s with hli := { s.hli with
      byteRx := { s.hli.byteRx with phase := .waitingHigh, awaited := false, breakCounted := true, breakDue := false }
      frameRx := .hunt
      silenceFrom := none
      counters := { s.hli.counters with lineBreak := satInc s.hli.counters.lineBreak } } } : State).resume) ∧
    (s.hli.byteRx.breakCounted = true → exec .lineBreak s = .next s.resume)) ∧
  (∀ s : State, let due := s.hli.frameRx ≠ .hunt ∧
      ∃ since, s.hli.silenceFrom = some since ∧ 2560 * s.hli.divisor ≤ (s.timebase - since).toNat
    let waiting : ByteReceiver := { s.hli.byteRx with phase := .waitingHigh, awaited := false, discarded := false }
    (¬ due → exec .characterDiscarded s = .next ({ s with hli := { s.hli with byteRx := waiting } } : State).resume) ∧
    (due → exec .characterDiscarded s = .next ({ s with hli := { s.hli with
      byteRx := waiting, frameRx := .hunt, silenceFrom := none
      counters := { s.hli.counters with gapError := satInc s.hli.counters.gapError } } } : State).resume))

/-- The divisor of the straps (R167), REPLY_TRANSMIT (R183) and FRAME_END, which frees the transmitter exactly when (LEN+4) × 160 × D ticks
have passed since the frame began (R184); the end of a DEVICE_RESET's reply is DEVICE_RESET_EFFECT (the model's, log 16), and a command
whose condition does not hold changes nothing (log 2). LTX is high while the transmitter is free; otherwise it has the level of the present
bit time of the frame: of byte k its start bit, low, its data bits, least significant first, and its stop bit, high (R168, R183, R184). -/
def Obligations.FramesAreSentWholeAtTheLinksRate : Prop :=
  (∀ h : HostLink, h.divisor = (match h.rs1, h.rs0 with | false, false => 1 | false, true => 4 | true, false => 16 | true, true => 64) ∧
    h.bitTime = 16 * h.divisor ∧ h.byteTime = 160 * h.divisor ∧ h.silenceLimit = 2560 * h.divisor ∧
    h.breakLength = 320 * h.divisor) ∧
  (∀ (s : State) (m : Message) (rest : List Message), s.hli.transmitter = none → s.hli.replies = m :: rest →
    exec .replyTransmit s = .next ({ s with hli := { s.hli with
      replies := rest
      transmitter := some
        { bytes := frameBytes m.kind m.tag m.data, begun := s.timebase
          resetReply := s.hli.resetPending && rest.isEmpty } } } : State).resume) ∧
  (∀ s : State, s.hli.transmitter ≠ none ∨ s.hli.replies = [] → exec .replyTransmit s = .next s.resume) ∧
  (∀ (s : State) (f : Sending), s.hli.transmitter = some f → f.resetReply = false →
    (f.bytes.length * (160 * s.hli.divisor) ≤ (s.timebase - f.begun).toNat →
      exec .frameEnd s = .next ({ s with hli := { s.hli with transmitter := none } } : State).resume) ∧
    ((s.timebase - f.begun).toNat < f.bytes.length * (160 * s.hli.divisor) → exec .frameEnd s = .next s.resume)) ∧
  (∀ s : State, (s.hli.transmitter = none ∨ ∃ f, s.hli.transmitter = some f ∧ f.resetReply = true) → exec .frameEnd s = .next s.resume) ∧
  (∀ s : State, s.hli.transmitter = none → s.ltx = true) ∧
  (∀ (s : State) (f : Sending) (k n : Nat) (b : Byte), s.hli.transmitter = some f → f.bytes[k]? = some b → n < 10 →
    (s.timebase - f.begun).toNat / (16 * s.hli.divisor) = 10 * k + n →
    s.ltx = (if n = 0 then false else if n = 9 then true else b.getLsbD (n - 1)))

/-- A refused request changes no state and raises no event (R181). -/
def Obligations.RefusedRequestsChangeNothing : Prop :=
  ∀ (r : Request) (s : State) (d : Denial), (execute r s).reply = .denied d →
    (execute r s).state = s ∧ (execute r s).events = []

/-! ### Invariants -/

/-- The Report Queue keeps its two shares, and the reply queue and cache their four places with distinct non-zero tags (R146, R177,
R182). -/
def Obligations.StoresStayWithinTheirBounds : Prop :=
  ∀ s t : State, StoresBounded s → step s = .next t → StoresBounded t

/-- generated = transmitted + waiting + lost for every probe, modulo 2^32 (R8). -/
def Obligations.ReportsStayAccountedFor : Prop :=
  ∀ s t : State, (∀ p, ReportsAccounted s p) → step s = .next t → ∀ p, ReportsAccounted t p

/-- A pending commit exists only while its owner is RUNNING (R39). -/
def Obligations.PendingCommitsNeedARunningOwner : Prop :=
  ∀ s t : State, PendingOnlyRunning s → step s = .next t → PendingOnlyRunning t

/-- A probe has a plan exactly when it is not FREE, and the fields of a wait only in ARMED (R3, R6, R44). -/
def Obligations.ProbeRecordsMatchTheirState : Prop :=
  ∀ s t : State, (∀ p, PlanUnlessFree (s.probe p) ∧ WaitFieldsArmed (s.probe p)) → step s = .next t →
    ∀ p, PlanUnlessFree (t.probe p) ∧ WaitFieldsArmed (t.probe p)

/-- The couplings keep distinct source, event and target, and no source is its own target (R128). -/
def Obligations.CouplingsStayDistinct : Prop :=
  ∀ s t : State, CouplingsDistinct s.cpl → step s = .next t → CouplingsDistinct t.cpl

/-- Thresholds stay 1..4095 and every stability count below its line's threshold (R69, R70). -/
def Obligations.LinesStayBelowTheirThresholds : Prop :=
  ∀ s t : State, LinesBounded s.lfe → step s = .next t → LinesBounded t.lfe

/-- The staged edges agree with the staged plan, and every probe's history and histogram with its committed plan (R32, R33, R34, R107,
R108, R119). -/
def Obligations.StagedEdgesAndContextsFitTheirPlans : Prop :=
  ∀ s t : State, (∀ st, s.staging = some st → StagedEdgesInOrder st) → (∀ p, ContextFitsPlan (s.probe p)) → step s = .next t →
    (∀ st, t.staging = some st → StagedEdgesInOrder st) ∧ ∀ p, ContextFitsPlan (t.probe p)

/-- Every invariant holds of the part right after reset, and nothing waits there. -/
def Obligations.ResetMeetsEveryInvariant : Prop :=
  Calm State.reset ∧
  StoresBounded State.reset ∧ (∀ p, ReportsAccounted State.reset p) ∧ PendingOnlyRunning State.reset ∧
  (∀ p, PlanUnlessFree (State.reset.probe p) ∧ WaitFieldsArmed (State.reset.probe p)) ∧ CouplingsDistinct State.reset.cpl ∧
  LinesBounded State.reset.lfe ∧ (∀ st, State.reset.staging = some st → StagedEdgesInOrder st) ∧
  ∀ p, ContextFitsPlan (State.reset.probe p)
end

