-- ==== Sys2Proof/Laws/State.lean ====
section
/-! SUPPORT. One lemma per field per update of State, each true by unfolding the update, and the two reads of a written probe. -/

namespace Sys2Proof.Machine

@[simp] theorem State.setProbe_timebase (s : State) (p : ProbeId) (x : Probe) : (s.setProbe p x).timebase = s.timebase := rfl
@[simp] theorem State.setProbe_lfe (s : State) (p : ProbeId) (x : Probe) : (s.setProbe p x).lfe = s.lfe := rfl
@[simp] theorem State.setProbe_probes (s : State) (p : ProbeId) (x : Probe) : (s.setProbe p x).probes = s.probes.set p.val x p.isLt := rfl
@[simp] theorem State.setProbe_measured (s : State) (p : ProbeId) (x : Probe) : (s.setProbe p x).measured = s.measured := rfl
@[simp] theorem State.setProbe_occasion (s : State) (p : ProbeId) (x : Probe) : (s.setProbe p x).occasion = s.occasion := rfl
@[simp] theorem State.setProbe_raised (s : State) (p : ProbeId) (x : Probe) : (s.setProbe p x).raised = s.raised := rfl
@[simp] theorem State.setProbe_actions (s : State) (p : ProbeId) (x : Probe) : (s.setProbe p x).actions = s.actions := rfl
@[simp] theorem State.setProbe_staging (s : State) (p : ProbeId) (x : Probe) : (s.setProbe p x).staging = s.staging := rfl
@[simp] theorem State.setProbe_cpl (s : State) (p : ProbeId) (x : Probe) : (s.setProbe p x).cpl = s.cpl := rfl
@[simp] theorem State.setProbe_rpq (s : State) (p : ProbeId) (x : Probe) : (s.setProbe p x).rpq = s.rpq := rfl
@[simp] theorem State.setProbe_hli (s : State) (p : ProbeId) (x : Probe) : (s.setProbe p x).hli = s.hli := rfl
@[simp] theorem State.setProbe_schedule (s : State) (p : ProbeId) (x : Probe) : (s.setProbe p x).schedule = s.schedule := rfl
@[simp] theorem State.setProbe_pending (s : State) (p : ProbeId) (x : Probe) : (s.setProbe p x).pending = s.pending := rfl
@[simp] theorem State.setProbe_mark (s : State) (p : ProbeId) (x : Probe) (q : ProbeId) : (s.setProbe p x).mark q = s.mark q := rfl

@[simp] theorem State.setMark_timebase (s : State) (p : ProbeId) (x : TickMark) : (s.setMark p x).timebase = s.timebase := rfl
@[simp] theorem State.setMark_lfe (s : State) (p : ProbeId) (x : TickMark) : (s.setMark p x).lfe = s.lfe := rfl
@[simp] theorem State.setMark_probes (s : State) (p : ProbeId) (x : TickMark) : (s.setMark p x).probes = s.probes := rfl
@[simp] theorem State.setMark_measured (s : State) (p : ProbeId) (x : TickMark) : (s.setMark p x).measured = s.measured.set p.val x p.isLt := rfl
@[simp] theorem State.setMark_occasion (s : State) (p : ProbeId) (x : TickMark) : (s.setMark p x).occasion = s.occasion := rfl
@[simp] theorem State.setMark_raised (s : State) (p : ProbeId) (x : TickMark) : (s.setMark p x).raised = s.raised := rfl
@[simp] theorem State.setMark_actions (s : State) (p : ProbeId) (x : TickMark) : (s.setMark p x).actions = s.actions := rfl
@[simp] theorem State.setMark_staging (s : State) (p : ProbeId) (x : TickMark) : (s.setMark p x).staging = s.staging := rfl
@[simp] theorem State.setMark_cpl (s : State) (p : ProbeId) (x : TickMark) : (s.setMark p x).cpl = s.cpl := rfl
@[simp] theorem State.setMark_rpq (s : State) (p : ProbeId) (x : TickMark) : (s.setMark p x).rpq = s.rpq := rfl
@[simp] theorem State.setMark_hli (s : State) (p : ProbeId) (x : TickMark) : (s.setMark p x).hli = s.hli := rfl
@[simp] theorem State.setMark_schedule (s : State) (p : ProbeId) (x : TickMark) : (s.setMark p x).schedule = s.schedule := rfl
@[simp] theorem State.setMark_pending (s : State) (p : ProbeId) (x : TickMark) : (s.setMark p x).pending = s.pending := rfl
@[simp] theorem State.setMark_probe (s : State) (p : ProbeId) (x : TickMark) (q : ProbeId) : (s.setMark p x).probe q = s.probe q := rfl

@[simp] theorem State.setTimebase_timebase (s : State) (x : Tick) : (s.setTimebase x).timebase = x := rfl
@[simp] theorem State.setTimebase_lfe (s : State) (x : Tick) : (s.setTimebase x).lfe = s.lfe := rfl
@[simp] theorem State.setTimebase_probes (s : State) (x : Tick) : (s.setTimebase x).probes = s.probes := rfl
@[simp] theorem State.setTimebase_measured (s : State) (x : Tick) : (s.setTimebase x).measured = s.measured := rfl
@[simp] theorem State.setTimebase_occasion (s : State) (x : Tick) : (s.setTimebase x).occasion = s.occasion := rfl
@[simp] theorem State.setTimebase_raised (s : State) (x : Tick) : (s.setTimebase x).raised = s.raised := rfl
@[simp] theorem State.setTimebase_actions (s : State) (x : Tick) : (s.setTimebase x).actions = s.actions := rfl
@[simp] theorem State.setTimebase_staging (s : State) (x : Tick) : (s.setTimebase x).staging = s.staging := rfl
@[simp] theorem State.setTimebase_cpl (s : State) (x : Tick) : (s.setTimebase x).cpl = s.cpl := rfl
@[simp] theorem State.setTimebase_rpq (s : State) (x : Tick) : (s.setTimebase x).rpq = s.rpq := rfl
@[simp] theorem State.setTimebase_hli (s : State) (x : Tick) : (s.setTimebase x).hli = s.hli := rfl
@[simp] theorem State.setTimebase_schedule (s : State) (x : Tick) : (s.setTimebase x).schedule = s.schedule := rfl
@[simp] theorem State.setTimebase_pending (s : State) (x : Tick) : (s.setTimebase x).pending = s.pending := rfl
@[simp] theorem State.setTimebase_probe (s : State) (x : Tick) (q : ProbeId) : (s.setTimebase x).probe q = s.probe q := rfl
@[simp] theorem State.setTimebase_mark (s : State) (x : Tick) (q : ProbeId) : (s.setTimebase x).mark q = s.mark q := rfl

@[simp] theorem State.setLfe_timebase (s : State) (x : LineFrontEnd) : (s.setLfe x).timebase = s.timebase := rfl
@[simp] theorem State.setLfe_lfe (s : State) (x : LineFrontEnd) : (s.setLfe x).lfe = x := rfl
@[simp] theorem State.setLfe_probes (s : State) (x : LineFrontEnd) : (s.setLfe x).probes = s.probes := rfl
@[simp] theorem State.setLfe_measured (s : State) (x : LineFrontEnd) : (s.setLfe x).measured = s.measured := rfl
@[simp] theorem State.setLfe_occasion (s : State) (x : LineFrontEnd) : (s.setLfe x).occasion = s.occasion := rfl
@[simp] theorem State.setLfe_raised (s : State) (x : LineFrontEnd) : (s.setLfe x).raised = s.raised := rfl
@[simp] theorem State.setLfe_actions (s : State) (x : LineFrontEnd) : (s.setLfe x).actions = s.actions := rfl
@[simp] theorem State.setLfe_staging (s : State) (x : LineFrontEnd) : (s.setLfe x).staging = s.staging := rfl
@[simp] theorem State.setLfe_cpl (s : State) (x : LineFrontEnd) : (s.setLfe x).cpl = s.cpl := rfl
@[simp] theorem State.setLfe_rpq (s : State) (x : LineFrontEnd) : (s.setLfe x).rpq = s.rpq := rfl
@[simp] theorem State.setLfe_hli (s : State) (x : LineFrontEnd) : (s.setLfe x).hli = s.hli := rfl
@[simp] theorem State.setLfe_schedule (s : State) (x : LineFrontEnd) : (s.setLfe x).schedule = s.schedule := rfl
@[simp] theorem State.setLfe_pending (s : State) (x : LineFrontEnd) : (s.setLfe x).pending = s.pending := rfl
@[simp] theorem State.setLfe_probe (s : State) (x : LineFrontEnd) (q : ProbeId) : (s.setLfe x).probe q = s.probe q := rfl
@[simp] theorem State.setLfe_mark (s : State) (x : LineFrontEnd) (q : ProbeId) : (s.setLfe x).mark q = s.mark q := rfl

@[simp] theorem State.setOccasion_timebase (s : State) (x : Option Occasion) : (s.setOccasion x).timebase = s.timebase := rfl
@[simp] theorem State.setOccasion_lfe (s : State) (x : Option Occasion) : (s.setOccasion x).lfe = s.lfe := rfl
@[simp] theorem State.setOccasion_probes (s : State) (x : Option Occasion) : (s.setOccasion x).probes = s.probes := rfl
@[simp] theorem State.setOccasion_measured (s : State) (x : Option Occasion) : (s.setOccasion x).measured = s.measured := rfl
@[simp] theorem State.setOccasion_occasion (s : State) (x : Option Occasion) : (s.setOccasion x).occasion = x := rfl
@[simp] theorem State.setOccasion_raised (s : State) (x : Option Occasion) : (s.setOccasion x).raised = s.raised := rfl
@[simp] theorem State.setOccasion_actions (s : State) (x : Option Occasion) : (s.setOccasion x).actions = s.actions := rfl
@[simp] theorem State.setOccasion_staging (s : State) (x : Option Occasion) : (s.setOccasion x).staging = s.staging := rfl
@[simp] theorem State.setOccasion_cpl (s : State) (x : Option Occasion) : (s.setOccasion x).cpl = s.cpl := rfl
@[simp] theorem State.setOccasion_rpq (s : State) (x : Option Occasion) : (s.setOccasion x).rpq = s.rpq := rfl
@[simp] theorem State.setOccasion_hli (s : State) (x : Option Occasion) : (s.setOccasion x).hli = s.hli := rfl
@[simp] theorem State.setOccasion_schedule (s : State) (x : Option Occasion) : (s.setOccasion x).schedule = s.schedule := rfl
@[simp] theorem State.setOccasion_pending (s : State) (x : Option Occasion) : (s.setOccasion x).pending = s.pending := rfl
@[simp] theorem State.setOccasion_probe (s : State) (x : Option Occasion) (q : ProbeId) : (s.setOccasion x).probe q = s.probe q := rfl
@[simp] theorem State.setOccasion_mark (s : State) (x : Option Occasion) (q : ProbeId) : (s.setOccasion x).mark q = s.mark q := rfl

@[simp] theorem State.setRaised_timebase (s : State) (x : List Event) : (s.setRaised x).timebase = s.timebase := rfl
@[simp] theorem State.setRaised_lfe (s : State) (x : List Event) : (s.setRaised x).lfe = s.lfe := rfl
@[simp] theorem State.setRaised_probes (s : State) (x : List Event) : (s.setRaised x).probes = s.probes := rfl
@[simp] theorem State.setRaised_measured (s : State) (x : List Event) : (s.setRaised x).measured = s.measured := rfl
@[simp] theorem State.setRaised_occasion (s : State) (x : List Event) : (s.setRaised x).occasion = s.occasion := rfl
@[simp] theorem State.setRaised_raised (s : State) (x : List Event) : (s.setRaised x).raised = x := rfl
@[simp] theorem State.setRaised_actions (s : State) (x : List Event) : (s.setRaised x).actions = s.actions := rfl
@[simp] theorem State.setRaised_staging (s : State) (x : List Event) : (s.setRaised x).staging = s.staging := rfl
@[simp] theorem State.setRaised_cpl (s : State) (x : List Event) : (s.setRaised x).cpl = s.cpl := rfl
@[simp] theorem State.setRaised_rpq (s : State) (x : List Event) : (s.setRaised x).rpq = s.rpq := rfl
@[simp] theorem State.setRaised_hli (s : State) (x : List Event) : (s.setRaised x).hli = s.hli := rfl
@[simp] theorem State.setRaised_schedule (s : State) (x : List Event) : (s.setRaised x).schedule = s.schedule := rfl
@[simp] theorem State.setRaised_pending (s : State) (x : List Event) : (s.setRaised x).pending = s.pending := rfl
@[simp] theorem State.setRaised_probe (s : State) (x : List Event) (q : ProbeId) : (s.setRaised x).probe q = s.probe q := rfl
@[simp] theorem State.setRaised_mark (s : State) (x : List Event) (q : ProbeId) : (s.setRaised x).mark q = s.mark q := rfl

@[simp] theorem State.setActions_timebase (s : State) (x : List Waiting) : (s.setActions x).timebase = s.timebase := rfl
@[simp] theorem State.setActions_lfe (s : State) (x : List Waiting) : (s.setActions x).lfe = s.lfe := rfl
@[simp] theorem State.setActions_probes (s : State) (x : List Waiting) : (s.setActions x).probes = s.probes := rfl
@[simp] theorem State.setActions_measured (s : State) (x : List Waiting) : (s.setActions x).measured = s.measured := rfl
@[simp] theorem State.setActions_occasion (s : State) (x : List Waiting) : (s.setActions x).occasion = s.occasion := rfl
@[simp] theorem State.setActions_raised (s : State) (x : List Waiting) : (s.setActions x).raised = s.raised := rfl
@[simp] theorem State.setActions_actions (s : State) (x : List Waiting) : (s.setActions x).actions = x := rfl
@[simp] theorem State.setActions_staging (s : State) (x : List Waiting) : (s.setActions x).staging = s.staging := rfl
@[simp] theorem State.setActions_cpl (s : State) (x : List Waiting) : (s.setActions x).cpl = s.cpl := rfl
@[simp] theorem State.setActions_rpq (s : State) (x : List Waiting) : (s.setActions x).rpq = s.rpq := rfl
@[simp] theorem State.setActions_hli (s : State) (x : List Waiting) : (s.setActions x).hli = s.hli := rfl
@[simp] theorem State.setActions_schedule (s : State) (x : List Waiting) : (s.setActions x).schedule = s.schedule := rfl
@[simp] theorem State.setActions_pending (s : State) (x : List Waiting) : (s.setActions x).pending = s.pending := rfl
@[simp] theorem State.setActions_probe (s : State) (x : List Waiting) (q : ProbeId) : (s.setActions x).probe q = s.probe q := rfl
@[simp] theorem State.setActions_mark (s : State) (x : List Waiting) (q : ProbeId) : (s.setActions x).mark q = s.mark q := rfl

@[simp] theorem State.raise_timebase (s : State) (x : List Event) : (s.raise x).timebase = s.timebase := rfl
@[simp] theorem State.raise_lfe (s : State) (x : List Event) : (s.raise x).lfe = s.lfe := rfl
@[simp] theorem State.raise_probes (s : State) (x : List Event) : (s.raise x).probes = s.probes := rfl
@[simp] theorem State.raise_measured (s : State) (x : List Event) : (s.raise x).measured = s.measured := rfl
@[simp] theorem State.raise_occasion (s : State) (x : List Event) : (s.raise x).occasion = s.occasion := rfl
@[simp] theorem State.raise_raised (s : State) (x : List Event) : (s.raise x).raised = s.raised ++ x := rfl
@[simp] theorem State.raise_actions (s : State) (x : List Event) : (s.raise x).actions = s.actions := rfl
@[simp] theorem State.raise_staging (s : State) (x : List Event) : (s.raise x).staging = s.staging := rfl
@[simp] theorem State.raise_cpl (s : State) (x : List Event) : (s.raise x).cpl = s.cpl := rfl
@[simp] theorem State.raise_rpq (s : State) (x : List Event) : (s.raise x).rpq = s.rpq := rfl
@[simp] theorem State.raise_hli (s : State) (x : List Event) : (s.raise x).hli = s.hli := rfl
@[simp] theorem State.raise_schedule (s : State) (x : List Event) : (s.raise x).schedule = s.schedule := rfl
@[simp] theorem State.raise_pending (s : State) (x : List Event) : (s.raise x).pending = s.pending := rfl
@[simp] theorem State.raise_probe (s : State) (x : List Event) (q : ProbeId) : (s.raise x).probe q = s.probe q := rfl
@[simp] theorem State.raise_mark (s : State) (x : List Event) (q : ProbeId) : (s.raise x).mark q = s.mark q := rfl

@[simp] theorem State.setStaging_timebase (s : State) (x : Option Staging) : (s.setStaging x).timebase = s.timebase := rfl
@[simp] theorem State.setStaging_lfe (s : State) (x : Option Staging) : (s.setStaging x).lfe = s.lfe := rfl
@[simp] theorem State.setStaging_probes (s : State) (x : Option Staging) : (s.setStaging x).probes = s.probes := rfl
@[simp] theorem State.setStaging_measured (s : State) (x : Option Staging) : (s.setStaging x).measured = s.measured := rfl
@[simp] theorem State.setStaging_occasion (s : State) (x : Option Staging) : (s.setStaging x).occasion = s.occasion := rfl
@[simp] theorem State.setStaging_raised (s : State) (x : Option Staging) : (s.setStaging x).raised = s.raised := rfl
@[simp] theorem State.setStaging_actions (s : State) (x : Option Staging) : (s.setStaging x).actions = s.actions := rfl
@[simp] theorem State.setStaging_staging (s : State) (x : Option Staging) : (s.setStaging x).staging = x := rfl
@[simp] theorem State.setStaging_cpl (s : State) (x : Option Staging) : (s.setStaging x).cpl = s.cpl := rfl
@[simp] theorem State.setStaging_rpq (s : State) (x : Option Staging) : (s.setStaging x).rpq = s.rpq := rfl
@[simp] theorem State.setStaging_hli (s : State) (x : Option Staging) : (s.setStaging x).hli = s.hli := rfl
@[simp] theorem State.setStaging_schedule (s : State) (x : Option Staging) : (s.setStaging x).schedule = s.schedule := rfl
@[simp] theorem State.setStaging_pending (s : State) (x : Option Staging) : (s.setStaging x).pending = s.pending := rfl
@[simp] theorem State.setStaging_probe (s : State) (x : Option Staging) (q : ProbeId) : (s.setStaging x).probe q = s.probe q := rfl
@[simp] theorem State.setStaging_mark (s : State) (x : Option Staging) (q : ProbeId) : (s.setStaging x).mark q = s.mark q := rfl

@[simp] theorem State.setCpl_timebase (s : State) (x : CouplingTable) : (s.setCpl x).timebase = s.timebase := rfl
@[simp] theorem State.setCpl_lfe (s : State) (x : CouplingTable) : (s.setCpl x).lfe = s.lfe := rfl
@[simp] theorem State.setCpl_probes (s : State) (x : CouplingTable) : (s.setCpl x).probes = s.probes := rfl
@[simp] theorem State.setCpl_measured (s : State) (x : CouplingTable) : (s.setCpl x).measured = s.measured := rfl
@[simp] theorem State.setCpl_occasion (s : State) (x : CouplingTable) : (s.setCpl x).occasion = s.occasion := rfl
@[simp] theorem State.setCpl_raised (s : State) (x : CouplingTable) : (s.setCpl x).raised = s.raised := rfl
@[simp] theorem State.setCpl_actions (s : State) (x : CouplingTable) : (s.setCpl x).actions = s.actions := rfl
@[simp] theorem State.setCpl_staging (s : State) (x : CouplingTable) : (s.setCpl x).staging = s.staging := rfl
@[simp] theorem State.setCpl_cpl (s : State) (x : CouplingTable) : (s.setCpl x).cpl = x := rfl
@[simp] theorem State.setCpl_rpq (s : State) (x : CouplingTable) : (s.setCpl x).rpq = s.rpq := rfl
@[simp] theorem State.setCpl_hli (s : State) (x : CouplingTable) : (s.setCpl x).hli = s.hli := rfl
@[simp] theorem State.setCpl_schedule (s : State) (x : CouplingTable) : (s.setCpl x).schedule = s.schedule := rfl
@[simp] theorem State.setCpl_pending (s : State) (x : CouplingTable) : (s.setCpl x).pending = s.pending := rfl
@[simp] theorem State.setCpl_probe (s : State) (x : CouplingTable) (q : ProbeId) : (s.setCpl x).probe q = s.probe q := rfl
@[simp] theorem State.setCpl_mark (s : State) (x : CouplingTable) (q : ProbeId) : (s.setCpl x).mark q = s.mark q := rfl

@[simp] theorem State.setRpq_timebase (s : State) (x : ReportQueue) : (s.setRpq x).timebase = s.timebase := rfl
@[simp] theorem State.setRpq_lfe (s : State) (x : ReportQueue) : (s.setRpq x).lfe = s.lfe := rfl
@[simp] theorem State.setRpq_probes (s : State) (x : ReportQueue) : (s.setRpq x).probes = s.probes := rfl
@[simp] theorem State.setRpq_measured (s : State) (x : ReportQueue) : (s.setRpq x).measured = s.measured := rfl
@[simp] theorem State.setRpq_occasion (s : State) (x : ReportQueue) : (s.setRpq x).occasion = s.occasion := rfl
@[simp] theorem State.setRpq_raised (s : State) (x : ReportQueue) : (s.setRpq x).raised = s.raised := rfl
@[simp] theorem State.setRpq_actions (s : State) (x : ReportQueue) : (s.setRpq x).actions = s.actions := rfl
@[simp] theorem State.setRpq_staging (s : State) (x : ReportQueue) : (s.setRpq x).staging = s.staging := rfl
@[simp] theorem State.setRpq_cpl (s : State) (x : ReportQueue) : (s.setRpq x).cpl = s.cpl := rfl
@[simp] theorem State.setRpq_rpq (s : State) (x : ReportQueue) : (s.setRpq x).rpq = x := rfl
@[simp] theorem State.setRpq_hli (s : State) (x : ReportQueue) : (s.setRpq x).hli = s.hli := rfl
@[simp] theorem State.setRpq_schedule (s : State) (x : ReportQueue) : (s.setRpq x).schedule = s.schedule := rfl
@[simp] theorem State.setRpq_pending (s : State) (x : ReportQueue) : (s.setRpq x).pending = s.pending := rfl
@[simp] theorem State.setRpq_probe (s : State) (x : ReportQueue) (q : ProbeId) : (s.setRpq x).probe q = s.probe q := rfl
@[simp] theorem State.setRpq_mark (s : State) (x : ReportQueue) (q : ProbeId) : (s.setRpq x).mark q = s.mark q := rfl

@[simp] theorem State.setHli_timebase (s : State) (x : HostLink) : (s.setHli x).timebase = s.timebase := rfl
@[simp] theorem State.setHli_lfe (s : State) (x : HostLink) : (s.setHli x).lfe = s.lfe := rfl
@[simp] theorem State.setHli_probes (s : State) (x : HostLink) : (s.setHli x).probes = s.probes := rfl
@[simp] theorem State.setHli_measured (s : State) (x : HostLink) : (s.setHli x).measured = s.measured := rfl
@[simp] theorem State.setHli_occasion (s : State) (x : HostLink) : (s.setHli x).occasion = s.occasion := rfl
@[simp] theorem State.setHli_raised (s : State) (x : HostLink) : (s.setHli x).raised = s.raised := rfl
@[simp] theorem State.setHli_actions (s : State) (x : HostLink) : (s.setHli x).actions = s.actions := rfl
@[simp] theorem State.setHli_staging (s : State) (x : HostLink) : (s.setHli x).staging = s.staging := rfl
@[simp] theorem State.setHli_cpl (s : State) (x : HostLink) : (s.setHli x).cpl = s.cpl := rfl
@[simp] theorem State.setHli_rpq (s : State) (x : HostLink) : (s.setHli x).rpq = s.rpq := rfl
@[simp] theorem State.setHli_hli (s : State) (x : HostLink) : (s.setHli x).hli = x := rfl
@[simp] theorem State.setHli_schedule (s : State) (x : HostLink) : (s.setHli x).schedule = s.schedule := rfl
@[simp] theorem State.setHli_pending (s : State) (x : HostLink) : (s.setHli x).pending = s.pending := rfl
@[simp] theorem State.setHli_probe (s : State) (x : HostLink) (q : ProbeId) : (s.setHli x).probe q = s.probe q := rfl
@[simp] theorem State.setHli_mark (s : State) (x : HostLink) (q : ProbeId) : (s.setHli x).mark q = s.mark q := rfl

@[simp] theorem State.setSchedule_timebase (s : State) (x : List Nat) : (s.setSchedule x).timebase = s.timebase := rfl
@[simp] theorem State.setSchedule_lfe (s : State) (x : List Nat) : (s.setSchedule x).lfe = s.lfe := rfl
@[simp] theorem State.setSchedule_probes (s : State) (x : List Nat) : (s.setSchedule x).probes = s.probes := rfl
@[simp] theorem State.setSchedule_measured (s : State) (x : List Nat) : (s.setSchedule x).measured = s.measured := rfl
@[simp] theorem State.setSchedule_occasion (s : State) (x : List Nat) : (s.setSchedule x).occasion = s.occasion := rfl
@[simp] theorem State.setSchedule_raised (s : State) (x : List Nat) : (s.setSchedule x).raised = s.raised := rfl
@[simp] theorem State.setSchedule_actions (s : State) (x : List Nat) : (s.setSchedule x).actions = s.actions := rfl
@[simp] theorem State.setSchedule_staging (s : State) (x : List Nat) : (s.setSchedule x).staging = s.staging := rfl
@[simp] theorem State.setSchedule_cpl (s : State) (x : List Nat) : (s.setSchedule x).cpl = s.cpl := rfl
@[simp] theorem State.setSchedule_rpq (s : State) (x : List Nat) : (s.setSchedule x).rpq = s.rpq := rfl
@[simp] theorem State.setSchedule_hli (s : State) (x : List Nat) : (s.setSchedule x).hli = s.hli := rfl
@[simp] theorem State.setSchedule_schedule (s : State) (x : List Nat) : (s.setSchedule x).schedule = x := rfl
@[simp] theorem State.setSchedule_pending (s : State) (x : List Nat) : (s.setSchedule x).pending = s.pending := rfl
@[simp] theorem State.setSchedule_probe (s : State) (x : List Nat) (q : ProbeId) : (s.setSchedule x).probe q = s.probe q := rfl
@[simp] theorem State.setSchedule_mark (s : State) (x : List Nat) (q : ProbeId) : (s.setSchedule x).mark q = s.mark q := rfl

@[simp] theorem State.probe_setProbe_self (s : State) (p : ProbeId) (x : Probe) : (s.setProbe p x).probe p = x := by
  simp [State.probe, State.setProbe]

theorem State.probe_setProbe_ne (s : State) {p q : ProbeId} (x : Probe) (h : q ≠ p) : (s.setProbe p x).probe q = s.probe q := by
  have : (p : Nat) ≠ q := fun e => h (Fin.ext e.symm)
  simp [State.probe, State.setProbe, Vector.getElem_set_ne, this]

theorem State.probe_setProbe (s : State) (p q : ProbeId) (x : Probe) :
    (s.setProbe p x).probe q = if q = p then x else s.probe q := by
  by_cases h : q = p
  · subst h; simp
  · simp [State.probe_setProbe_ne, h]

@[simp] theorem State.mark_setMark_self (s : State) (p : ProbeId) (x : TickMark) : (s.setMark p x).mark p = x := by
  simp [State.mark, State.setMark]

theorem State.mark_setMark (s : State) (p q : ProbeId) (x : TickMark) :
    (s.setMark p x).mark q = if q = p then x else s.mark q := by
  by_cases h : q = p
  · subst h; simp
  · have : (p : Nat) ≠ q := fun e => h (Fin.ext e.symm)
    simp [State.mark, State.setMark, Vector.getElem_set_ne, this, h]

/-- The fields of a state after its queue of commands is replaced. -/
@[simp] theorem State.withPending_probe (s : State) (l : List Instr) (q : ProbeId) : ({ s with pending := l } : State).probe q = s.probe q :=
  rfl

end Sys2Proof.Machine
end

