-- ==== Sys2Proof/Laws/Queue.lean ====
section
/-! SUPPORT. What the operations of the schedule, the Report Queue and the reply queue can do, each said once. -/

namespace Sys2Proof.Machine

/-! ### The schedule -/

theorem State.choose_state (s : State) (n : Nat) : ∃ sch, (s.choose n).state = s.setSchedule sch := by
  unfold State.choose
  split
  · exact ⟨s.schedule, rfl⟩
  · split
    · exact ⟨s.schedule, rfl⟩
    · exact ⟨_, rfl⟩

theorem State.choose_index_lt (s : State) {n : Nat} (h : 0 < n) : (s.choose n).index < n := by
  unfold State.choose
  split
  · exact h
  · split
    · exact h
    · exact Nat.mod_lt _ h

/-! ### Dequeue (R160) -/

/-- The transmitter and the sequence number are all that a dequeue changes in the Host Link Interface. -/
structure HostLinkKept (a b : HostLink) : Prop where
  rs1 : b.rs1 = a.rs1
  rs0 : b.rs0 = a.rs0
  byteRx : b.byteRx = a.byteRx
  frameRx : b.frameRx = a.frameRx
  silenceFrom : b.silenceFrom = a.silenceFrom
  replies : b.replies = a.replies
  cache : b.cache = a.cache
  counters : b.counters = a.counters
  resetPending : b.resetPending = a.resetPending

theorem HostLinkKept.refl (a : HostLink) : HostLinkKept a a := ⟨rfl, rfl, rfl, rfl, rfl, rfl, rfl, rfl, rfl⟩

theorem HostLinkKept.trans {a b c : HostLink} (h : HostLinkKept a b) (k : HostLinkKept b c) : HostLinkKept a c :=
  ⟨k.rs1.trans h.rs1, k.rs0.trans h.rs0, k.byteRx.trans h.byteRx, k.frameRx.trans h.frameRx, k.silenceFrom.trans h.silenceFrom,
    k.replies.trans h.replies, k.cache.trans h.cache, k.counters.trans h.counters, k.resetPending.trans h.resetPending⟩

/-- The lines as they were, or with the step of this tick made where it was still due (R65, R81). -/
def LinesKept (a b : LineFrontEnd) : Prop := b = a ∨ (a.stepped = false ∧ ∃ pins, b = a.step pins)

theorem LinesKept.refl (a : LineFrontEnd) : LinesKept a a := .inl rfl

theorem LinesKept.trans {a b c : LineFrontEnd} (h : LinesKept a b) (k : LinesKept b c) : LinesKept a c := by
  rcases h with rfl | ⟨h, pins, rfl⟩
  · exact k
  · rcases k with rfl | ⟨k, -⟩
    · exact .inr ⟨h, pins, rfl⟩
    · cases k

/-- What every claim on a probe and every chain keeps: the timebase, the lines but for the step of this tick, the queue of commands, and
the link but for the transmitter and the sequence number. -/
structure ClaimKeeps (s t : State) : Prop where
  timebase : t.timebase = s.timebase
  lfe : LinesKept s.lfe t.lfe
  pending : t.pending = s.pending
  hli : HostLinkKept s.hli t.hli

theorem ClaimKeeps.refl (s : State) : ClaimKeeps s s := ⟨rfl, .refl _, rfl, .refl _⟩

theorem ClaimKeeps.trans {a b c : State} (h : ClaimKeeps a b) (k : ClaimKeeps b c) : ClaimKeeps a c :=
  ⟨k.timebase.trans h.timebase, h.lfe.trans k.lfe, k.pending.trans h.pending, h.hli.trans k.hli⟩

/-- A probe record kept but for its transmitted count. -/
def SameButTransmitted (a b : Probe) : Prop := { b with transmitted := a.transmitted } = a

theorem SameButTransmitted.refl (a : Probe) : SameButTransmitted a a := rfl

theorem SameButTransmitted.trans {a b c : Probe} (h : SameButTransmitted a b) (k : SameButTransmitted b c) :
    SameButTransmitted a c := by
  unfold SameButTransmitted at *
  rw [← h, ← k]

theorem State.dequeue_keeps (s : State) : ClaimKeeps s s.dequeue := by
  unfold State.dequeue
  split
  · exact .refl _
  · split <;> exact ⟨rfl, .refl _, rfl, ⟨rfl, rfl, rfl, rfl, rfl, rfl, rfl, rfl, rfl⟩⟩

@[simp] theorem State.dequeue_staging (s : State) : s.dequeue.staging = s.staging := by
  unfold State.dequeue; split
  · rfl
  · split <;> rfl

@[simp] theorem State.dequeue_cpl (s : State) : s.dequeue.cpl = s.cpl := by
  unfold State.dequeue; split
  · rfl
  · split <;> rfl

@[simp] theorem State.dequeue_occasion (s : State) : s.dequeue.occasion = s.occasion := by
  unfold State.dequeue; split
  · rfl
  · split <;> rfl

@[simp] theorem State.dequeue_raised (s : State) : s.dequeue.raised = s.raised := by
  unfold State.dequeue; split
  · rfl
  · split <;> rfl

@[simp] theorem State.dequeue_actions (s : State) : s.dequeue.actions = s.actions := by
  unfold State.dequeue; split
  · rfl
  · split <;> rfl

@[simp] theorem State.dequeue_measured (s : State) : s.dequeue.measured = s.measured := by
  unfold State.dequeue; split
  · rfl
  · split <;> rfl

theorem State.dequeue_probe (s : State) (p : ProbeId) : SameButTransmitted (s.probe p) (s.dequeue.probe p) := by
  unfold State.dequeue
  split
  · rfl
  · split
    · rfl
    · rename_i r rest he q hq
      by_cases h : p = q
      · subst h; simp [SameButTransmitted]
      · rw [State.probe_setProbe_ne _ _ h]; rfl

/-- A dequeue that may come inside an operation does not come, or comes where it can (R149, R183). -/
theorem State.raceDequeue_cases (s : State) :
    (∃ sch, s.raceDequeue = s.setSchedule sch) ∨ (s.canDequeue = true ∧ ∃ sch, s.raceDequeue = (s.setSchedule sch).dequeue) := by
  unfold State.raceDequeue
  split
  · rename_i h
    obtain ⟨sch, e⟩ := s.choose_state 2
    simp only [e]
    split
    · exact .inr ⟨h, sch, rfl⟩
    · exact .inl ⟨sch, rfl⟩
  · exact .inl ⟨s.schedule, rfl⟩

/-- With the transmitter unable to take a report, no dequeue comes between. -/
theorem State.raceDequeue_of_not (s : State) (h : s.canDequeue = false) : s.raceDequeue = s := by
  simp [State.raceDequeue, h]

theorem State.raceDequeue_keeps (s : State) : ClaimKeeps s s.raceDequeue := by
  rcases s.raceDequeue_cases with ⟨sch, e⟩ | ⟨-, sch, e⟩
  · rw [e]; exact ⟨rfl, .refl _, rfl, .refl _⟩
  · rw [e]; exact ⟨(s.setSchedule sch).dequeue_keeps.1, (s.setSchedule sch).dequeue_keeps.2, (s.setSchedule sch).dequeue_keeps.3,
      (s.setSchedule sch).dequeue_keeps.4⟩

@[simp] theorem State.raceDequeue_staging (s : State) : s.raceDequeue.staging = s.staging := by
  rcases s.raceDequeue_cases with ⟨sch, e⟩ | ⟨-, sch, e⟩ <;> simp [e]

@[simp] theorem State.raceDequeue_cpl (s : State) : s.raceDequeue.cpl = s.cpl := by
  rcases s.raceDequeue_cases with ⟨sch, e⟩ | ⟨-, sch, e⟩ <;> simp [e]

@[simp] theorem State.raceDequeue_occasion (s : State) : s.raceDequeue.occasion = s.occasion := by
  rcases s.raceDequeue_cases with ⟨sch, e⟩ | ⟨-, sch, e⟩ <;> simp [e]

@[simp] theorem State.raceDequeue_raised (s : State) : s.raceDequeue.raised = s.raised := by
  rcases s.raceDequeue_cases with ⟨sch, e⟩ | ⟨-, sch, e⟩ <;> simp [e]

@[simp] theorem State.raceDequeue_actions (s : State) : s.raceDequeue.actions = s.actions := by
  rcases s.raceDequeue_cases with ⟨sch, e⟩ | ⟨-, sch, e⟩ <;> simp [e]

@[simp] theorem State.raceDequeue_measured (s : State) : s.raceDequeue.measured = s.measured := by
  rcases s.raceDequeue_cases with ⟨sch, e⟩ | ⟨-, sch, e⟩ <;> simp [e]

theorem State.raceDequeue_probe (s : State) (p : ProbeId) : SameButTransmitted (s.probe p) (s.raceDequeue.probe p) := by
  rcases s.raceDequeue_cases with ⟨sch, e⟩ | ⟨-, sch, e⟩
  · simp [e, SameButTransmitted]
  · rw [e]; exact (s.setSchedule sch).dequeue_probe p

/-! ### Offers (R147, R148, R152) -/

/-- A generated report is counted and then enqueued or lost, by the room the queue has after the dequeue that may precede the offer
(R144, R147, R148). -/
theorem State.generate_cases (s : State) (p : ProbeId) (body : ReportBody) :
    let s0 := s.raceDequeue
    let s1 := s0.setProbe p { s0.probe p with generated := (s0.probe p).generated + 1 }
    (s1.hasRoom p = true ∧ s.generate p body = { state := s1.enqueueReport p body, lost := false }) ∨
      (s1.hasRoom p = false ∧ s.generate p body = { state := s1.loseReport p, lost := true }) := by
  simp only [State.generate]
  split
  · exact .inl ⟨by assumption, rfl⟩
  · rename_i h; exact .inr ⟨Bool.eq_false_of_not_eq_true h, rfl⟩

theorem State.generate_keeps (s : State) (p : ProbeId) (body : ReportBody) : ClaimKeeps s (s.generate p body).state := by
  refine s.raceDequeue_keeps.trans ?_
  rcases s.generate_cases p body with ⟨-, e⟩ | ⟨-, e⟩ <;> rw [e] <;> exact ⟨rfl, .refl _, rfl, .refl _⟩

@[simp] theorem State.generate_staging (s : State) (p : ProbeId) (body : ReportBody) :
    (s.generate p body).state.staging = s.staging := by
  rcases s.generate_cases p body with ⟨-, e⟩ | ⟨-, e⟩ <;> simp [e, State.enqueueReport, State.loseReport]

@[simp] theorem State.generate_cpl (s : State) (p : ProbeId) (body : ReportBody) :
    (s.generate p body).state.cpl = s.cpl := by
  rcases s.generate_cases p body with ⟨-, e⟩ | ⟨-, e⟩ <;> simp [e, State.enqueueReport, State.loseReport]

@[simp] theorem State.generate_occasion (s : State) (p : ProbeId) (body : ReportBody) :
    (s.generate p body).state.occasion = s.occasion := by
  rcases s.generate_cases p body with ⟨-, e⟩ | ⟨-, e⟩ <;> simp [e, State.enqueueReport, State.loseReport]

@[simp] theorem State.generate_raised (s : State) (p : ProbeId) (body : ReportBody) :
    (s.generate p body).state.raised = s.raised := by
  rcases s.generate_cases p body with ⟨-, e⟩ | ⟨-, e⟩ <;> simp [e, State.enqueueReport, State.loseReport]

@[simp] theorem State.generate_actions (s : State) (p : ProbeId) (body : ReportBody) :
    (s.generate p body).state.actions = s.actions := by
  rcases s.generate_cases p body with ⟨-, e⟩ | ⟨-, e⟩ <;> simp [e, State.enqueueReport, State.loseReport]

@[simp] theorem State.generate_measured (s : State) (p : ProbeId) (body : ReportBody) :
    (s.generate p body).state.measured = s.measured := by
  rcases s.generate_cases p body with ⟨-, e⟩ | ⟨-, e⟩ <;> simp [e, State.enqueueReport, State.loseReport]

/-- A probe record kept but for its three report counters. -/
def SameButCounters (a b : Probe) : Prop :=
  { b with generated := a.generated, transmitted := a.transmitted, lost := a.lost } = a

theorem SameButCounters.refl (a : Probe) : SameButCounters a a := rfl

theorem SameButCounters.trans {a b c : Probe} (h : SameButCounters a b) (k : SameButCounters b c) : SameButCounters a c := by
  unfold SameButCounters at *
  rw [← h, ← k]

theorem SameButTransmitted.counters {a b : Probe} (h : SameButTransmitted a b) : SameButCounters a b := by
  unfold SameButCounters SameButTransmitted at *
  rw [← h]

theorem State.generate_probe (s : State) (p : ProbeId) (body : ReportBody) (q : ProbeId) :
    SameButCounters (s.probe q) ((s.generate p body).state.probe q) := by
  refine (s.raceDequeue_probe q).counters.trans ?_
  rcases s.generate_cases p body with ⟨-, e⟩ | ⟨-, e⟩ <;> rw [e]
  all_goals
    by_cases h : q = p
    · subst h; simp [State.enqueueReport, State.loseReport, SameButCounters]
    · simp [State.enqueueReport, State.loseReport, State.probe_setProbe_ne _ _ h, SameButCounters]

theorem State.offerSystem_keeps (s : State) (r : Report) : ClaimKeeps s (s.offerSystem r) := by
  unfold State.offerSystem; split <;> exact ⟨rfl, .refl _, rfl, .refl _⟩

/-! ### Replies -/

@[simp] theorem State.enterReply_probe (s : State) (kind tag : Byte) (r : Reply) (p : ProbeId) :
    (s.enterReply kind tag r).probe p = s.probe p := rfl

@[simp] theorem State.enterReply_rpq (s : State) (kind tag : Byte) (r : Reply) : (s.enterReply kind tag r).rpq = s.rpq := rfl

@[simp] theorem State.enterReply_staging (s : State) (kind tag : Byte) (r : Reply) : (s.enterReply kind tag r).staging = s.staging := rfl

@[simp] theorem State.enterReply_cpl (s : State) (kind tag : Byte) (r : Reply) : (s.enterReply kind tag r).cpl = s.cpl := rfl

@[simp] theorem State.enterReply_lfe (s : State) (kind tag : Byte) (r : Reply) : (s.enterReply kind tag r).lfe = s.lfe := rfl

@[simp] theorem State.enterReply_timebase (s : State) (kind tag : Byte) (r : Reply) :
    (s.enterReply kind tag r).timebase = s.timebase := rfl

@[simp] theorem State.enterReply_replies (s : State) (kind tag : Byte) (r : Reply) :
    (s.enterReply kind tag r).hli.replies = s.hli.replies ++ [{ kind := replyKind kind, tag := tag, reply := r }] := rfl

theorem storeReply_length (cache : List CacheEntry) (e : CacheEntry) (h : cache.length ≤ Config.replyCacheSize) :
    (storeReply cache e).length ≤ Config.replyCacheSize := by
  have hf := List.length_filter_le (fun c : CacheEntry => c.tag != e.tag) cache
  have hc : Config.replyCacheSize = 4 := rfl
  simp only [storeReply]
  by_cases hl : (cache.filter (fun c : CacheEntry => c.tag != e.tag)).length < Config.replyCacheSize
  · rw [if_pos hl, List.length_append, List.length_singleton]; omega
  · rw [if_neg hl, List.length_append, List.length_drop, List.length_singleton]; omega

theorem storeReply_mem {cache : List CacheEntry} {e c : CacheEntry} (h : c ∈ storeReply cache e) : c ∈ cache ∨ c = e := by
  simp only [storeReply] at h
  by_cases hl : (cache.filter (fun c : CacheEntry => c.tag != e.tag)).length < Config.replyCacheSize
  · rw [if_pos hl] at h
    simp only [List.mem_append, List.mem_filter, List.mem_singleton] at h
    exact h.imp (·.1) id
  · rw [if_neg hl] at h
    simp only [List.mem_append, List.mem_singleton] at h
    exact h.imp (fun m => (List.mem_filter.1 (List.mem_of_mem_drop m)).1) id

/-- Other blocks see none of what counting a link event does. -/
@[simp] theorem State.countLink_probe (s : State) (f : LinkCounters → LinkCounters) (p : ProbeId) :
    (s.countLink f).probe p = s.probe p := rfl

end Sys2Proof.Machine
end

