-- ==== Sys2Proof/Laws/Link.lean ====
section
/-! SUPPORT. What acceptance, dispatch and a chain with no event do, each said once. -/

namespace Sys2Proof.Machine

@[simp] theorem State.counted_eq (s : State) :
    (s.countLink fun c => { c with goodFrame := satInc c.goodFrame }) = s.counted := rfl

@[simp] theorem State.counted_probe (s : State) (p : ProbeId) : s.counted.probe p = s.probe p := rfl
@[simp] theorem State.counted_rpq (s : State) : s.counted.rpq = s.rpq := rfl
@[simp] theorem State.counted_staging (s : State) : s.counted.staging = s.staging := rfl
@[simp] theorem State.counted_cpl (s : State) : s.counted.cpl = s.cpl := rfl
@[simp] theorem State.counted_lfe (s : State) : s.counted.lfe = s.lfe := rfl
@[simp] theorem State.counted_timebase (s : State) : s.counted.timebase = s.timebase := rfl
@[simp] theorem State.counted_probes (s : State) : s.counted.probes = s.probes := rfl

@[simp] theorem State.raise_nil (s : State) : s.raise [] = s := by simp [State.raise, State.setRaised]

@[simp] theorem Effect.raised_unchanged (s : State) : (Effect.unchanged s).raised = s := State.raise_nil s

/-- With nothing waiting the chains are at their end. -/
theorem runChain_of_calm {s : State} (hr : s.raised = []) (ha : s.actions = []) (pauses : Bool) (n : Nat) : runChain pauses n s = s := by
  cases n with
  | zero => rfl
  | succ n => rw [runChain, if_pos (by simp [State.claims, State.nextEvents, hr, ha])]

@[simp] theorem continueOccasion_of_none {s : State} (h : s.occasion = none) (pauses : Bool) : continueOccasion pauses s = s := by
  simp [continueOccasion, h]

/-- Nothing that waits goes on where nothing waits. -/
theorem State.resume_of_calm {s : State} (h : Calm s) : s.resume = s := by
  simp only [State.resume, continueOccasion_of_none h.whole, h.whole]
  exact runChain_of_calm h.raised h.actions _ _

theorem State.finish_of_calm {s : State} (h : Calm s) : s.finish = s := by
  simp only [State.finish, continueOccasion_of_none h.whole]
  exact runChain_of_calm h.raised h.actions _ _

/-! The sample of LRX touches the byte receiver alone. -/

@[simp] theorem sampleLink_probe (lrx : Bool) (s : State) (p : ProbeId) : (sampleLink lrx s).probe p = s.probe p := rfl
@[simp] theorem sampleLink_mark (lrx : Bool) (s : State) (p : ProbeId) : (sampleLink lrx s).mark p = s.mark p := rfl
@[simp] theorem sampleLink_timebase (lrx : Bool) (s : State) : (sampleLink lrx s).timebase = s.timebase := rfl
@[simp] theorem sampleLink_lfe (lrx : Bool) (s : State) : (sampleLink lrx s).lfe = s.lfe := rfl
@[simp] theorem sampleLink_staging (lrx : Bool) (s : State) : (sampleLink lrx s).staging = s.staging := rfl
@[simp] theorem sampleLink_cpl (lrx : Bool) (s : State) : (sampleLink lrx s).cpl = s.cpl := rfl
@[simp] theorem sampleLink_rpq (lrx : Bool) (s : State) : (sampleLink lrx s).rpq = s.rpq := rfl
@[simp] theorem sampleLink_pending (lrx : Bool) (s : State) : (sampleLink lrx s).pending = s.pending := rfl
@[simp] theorem sampleLink_schedule (lrx : Bool) (s : State) : (sampleLink lrx s).schedule = s.schedule := rfl
@[simp] theorem sampleLink_hli (lrx : Bool) (s : State) : (sampleLink lrx s).hli =
    { s.hli with byteRx := s.hli.byteRx.sample (16 * s.hli.divisor) (320 * s.hli.divisor) s.timebase lrx } := rfl

/-- A first sample at the level of the reset leaves the byte receiver as the reset did (R190). -/
theorem ByteReceiver.reset_sample (bitTime breakLength : Nat) (now : Tick) (lrx : Bool) :
    (ByteReceiver.reset lrx).sample bitTime breakLength now lrx = ByteReceiver.reset lrx := by
  cases lrx <;> rfl

/-- A frame that acceptance lets through finds no reply of its own in the cache (R175). -/
theorem Admitted.notRepeated {s : State} {kind tag : Byte} (h : Admitted s kind tag) : s.hli.repeated kind tag = none := by
  unfold HostLink.repeated
  split
  · rfl
  · rename_i ht
    rcases h.fresh with h0 | hf
    · exact absurd h0 ht
    · rw [List.find?_eq_none]
      intro e he
      simpa using hf e he

/-- A request finds nothing to make whole first where no completion is in progress and, for a request of the table, no action waits. -/
theorem readyFor_of_whole {s : State} {r : Except DispatchFault Request} (h : s.occasion = none) (ha : ofTable r = true → s.actions = []) :
    readyFor r s = s := by
  have h1 : (if betweenOffers r s then s else continueOccasion false s) = s := by
    split
    · rfl
    · exact continueOccasion_of_none h _
  simp only [readyFor, h1]
  split
  · rename_i hr; rw [ha hr]; rfl
  · rfl

/-- Step 4 of acceptance: the frame is counted, dispatched and answered, and its events are raised (R175, R180). -/
theorem goodFrame_of_admitted {s : State} {kind tag : Byte} (h : Admitted s kind tag) (r : Except DispatchFault Request) :
    goodFrame kind tag r s =
      let a := dispatch r (readyFor r s.counted)
      (a.state.answered kind tag a.reply).raise a.events := by
  have h1 : s.counted.hli.resetPending = false := h.noReset
  have h2 : ¬ Config.replyQueueSize ≤ s.counted.hli.replies.length := Nat.not_le.2 h.room
  have h3 : s.counted.hli.repeated kind tag = none := h.notRepeated
  simp only [goodFrame, State.counted_eq, acceptFrame, h1, if_neg h2, h3, executeFrame]
  rfl

/-- Everything a good frame can do (R175): nothing more during a pending reset, a busy drop, a replay, or the execution of its request. -/
theorem goodFrame_cases (kind tag : Byte) (r : Except DispatchFault Request) (s : State) :
    (s.hli.resetPending = true ∧ goodFrame kind tag r s = s.counted) ∨
    (s.hli.resetPending = false ∧ 4 ≤ s.hli.replies.length ∧
      goodFrame kind tag r s = s.counted.countLink fun c => { c with busyDrop := satInc c.busyDrop }) ∨
    (s.hli.resetPending = false ∧ s.hli.replies.length < 4 ∧ ∃ e ∈ s.hli.cache, e.tag = tag ∧ e.kind = kind ∧
      goodFrame kind tag r s = replayReply e s.counted) ∨
    (Admitted s kind tag ∧ goodFrame kind tag r s =
      let a := dispatch r (readyFor r s.counted)
      (a.state.answered kind tag a.reply).raise a.events) := by
  have key : goodFrame kind tag r s = acceptFrame kind tag r s.counted := rfl
  cases h1 : s.hli.resetPending with
  | true =>
    have h : s.counted.hli.resetPending = true := h1
    exact .inl ⟨rfl, by rw [key, acceptFrame, if_pos h]⟩
  | false =>
    have h : ¬ s.counted.hli.resetPending = true := by rw [show s.counted.hli.resetPending = false from h1]; simp
    by_cases h2 : 4 ≤ s.hli.replies.length
    · have h2' : Config.replyQueueSize ≤ s.counted.hli.replies.length := h2
      exact .inr (.inl ⟨rfl, h2, by rw [key, acceptFrame, if_neg h, if_pos h2']⟩)
    · have h2' : ¬ Config.replyQueueSize ≤ s.counted.hli.replies.length := h2
      cases h3 : s.hli.repeated kind tag with
      | some e =>
        have hr : s.counted.hli.repeated kind tag = some e := h3
        have hm : e ∈ s.hli.cache ∧ e.tag = tag ∧ e.kind = kind := by
          unfold HostLink.repeated at h3
          split at h3
          · simp at h3
          · exact ⟨List.mem_of_find?_eq_some h3, by simpa using List.find?_some h3⟩
        refine .inr (.inr (.inl ⟨rfl, Nat.lt_of_not_le h2, e, hm.1, hm.2.1, hm.2.2, ?_⟩))
        rw [key, acceptFrame, if_neg h, if_neg h2', hr]
      | none =>
        have hf : tag = 0 ∨ ∀ e ∈ s.hli.cache, ¬ (e.tag = tag ∧ e.kind = kind) := by
          unfold HostLink.repeated at h3
          by_cases ht : tag = 0
          · exact .inl ht
          · rw [if_neg ht, List.find?_eq_none] at h3
            exact .inr fun e he => by simpa using h3 e he
        have ha : Admitted s kind tag := ⟨h1, Nat.lt_of_not_le h2, hf⟩
        exact .inr (.inr (.inr ⟨ha, goodFrame_of_admitted ha r⟩))

/-- The command of a request whose length its kind allows, taken while no completion is in progress (R175, R180). -/
theorem hostRequest_of_accepts {s : State} {tag : Byte} (r : Request) (h : Accepts s r.kind.code tag) (hl : r.lengthAllowed = true)
    (ha : ofTable (.ok r) = true → s.actions = []) :
    (hostRequest tag r s).done =
      .next ((execute r s.counted).state.repliedRaising r.kind.code tag (execute r s.counted).reply (execute r s.counted).events) := by
  have hw : readyFor (.ok r) s.counted = s.counted := readyFor_of_whole h.whole ha
  simp only [hostRequest, goodFrame_of_admitted h.toAdmitted, Request.checkLength, hl, if_true, hw, dispatch]
  rfl

/-- A probe field that names a probe passes check 3 (R179). -/
theorem withProbe_of_val {b : Byte} {p : ProbeId} (h : b.toNat = p.val) (s : State) (f : ProbeId → Answer) :
    withProbe b s f = f p := by
  have hb : b.toNat < 16 := h ▸ p.isLt
  have : probeOf b = some p := by
    simp only [probeOf, hb, dif_pos]
    exact congrArg some (Fin.ext h)
  simp [withProbe, this]

/-- A probe field above 15 is refused (R179). -/
theorem withProbe_of_large {b : Byte} (h : 15 < b.toNat) (s : State) (f : ProbeId → Answer) :
    withProbe b s f = deny .badProbe s := by
  have : probeOf b = none := by simp only [probeOf]; rw [dif_neg (by omega)]
  simp [withProbe, this]

end Sys2Proof.Machine
end

