-- ==== Sys2Proof/Laws/Lines.lean ====
section
/-! SUPPORT. What the Line Front End's operations do to one line. -/

namespace Sys2Proof.Machine

@[simp] theorem getElem_mapIndexed {α : Type} {n : Nat} (f : Fin n → α → α) (v : Vector α n) (i : Fin n) :
    (mapIndexed f v)[i.val] = f i v[i.val] := by
  have h : i.val < (List.ofFn fun i : Fin n => f i v[i.val]).length := by simp
  exact List.getElem_ofFn h

/-- One line after the step of a tick (R70, R72). -/
theorem LineFrontEnd.step_line (l : LineFrontEnd) (pins : BitVec 16) (i : LineId) :
    (l.step pins).lines[i.val] =
      if l.fresh then (l.lines[i.val]).firstStep (pins.getLsbD i.val)
      else (l.lines[i.val]).step (l.threshold (l.lines[i.val]).selection) (pins.getLsbD i.val) :=
  getElem_mapIndexed _ _ i

@[simp] theorem LineFrontEnd.step_thresholds (l : LineFrontEnd) (pins : BitVec 16) : (l.step pins).thresholds = l.thresholds := rfl

@[simp] theorem LineFrontEnd.step_stepped (l : LineFrontEnd) (pins : BitVec 16) : (l.step pins).stepped = true := rfl

/-- The step of a tick is made once (R70; log 2). -/
theorem filterStep_cases (pins : BitVec 16) (s : State) :
    (s.lfe.stepped = true ∧ filterStep pins s = s) ∨
      (s.lfe.stepped = false ∧ filterStep pins s = s.setLfe (s.lfe.step pins)) := by
  unfold filterStep
  cases h : s.lfe.stepped
  · exact .inr ⟨rfl, rfl⟩
  · exact .inl ⟨rfl, rfl⟩

/-- Everything the step of a claim that needs it can do: nothing where the step is made, or the step on some levels of the pins. -/
theorem madeStep_cases (s : State) :
    (s.lfe.stepped = true ∧ madeStep s = s) ∨
      (s.lfe.stepped = false ∧ ∃ pins sch, madeStep s = (s.setSchedule sch).setLfe (s.lfe.step pins)) := by
  unfold madeStep
  cases h : s.lfe.stepped
  · obtain ⟨sch, e⟩ := s.choose_state 65536
    refine .inr ⟨rfl, s.lfe.levels ^^^ BitVec.ofNat 16 (s.choose 65536).index, sch, ?_⟩
    simp [e, filterStep, h]
  · exact .inl ⟨rfl, rfl⟩

theorem madeStep_keeps (s : State) : ClaimKeeps s (madeStep s) := by
  rcases madeStep_cases s with ⟨-, e⟩ | ⟨h, pins, sch, e⟩ <;> rw [e]
  · exact .refl _
  · exact ⟨rfl, .inr ⟨h, pins, rfl⟩, rfl, .refl _⟩

@[simp] theorem madeStep_probe (s : State) (p : ProbeId) : (madeStep s).probe p = s.probe p := by
  rcases madeStep_cases s with ⟨-, e⟩ | ⟨-, pins, sch, e⟩ <;> rw [e]
  rfl

/-- The threshold of profile `k + 1` (R69). -/
theorem LineFrontEnd.threshold_succ (l : LineFrontEnd) {sel : Fin 5} {k : Fin 4} (h : sel.val = k.val + 1) :
    l.threshold sel = some l.thresholds[k.val] := by
  have h0 : ¬ sel.val = 0 := by omega
  have hs : sel.val - 1 = k.val := by omega
  simp only [LineFrontEnd.threshold, dif_neg h0, hs]

theorem LineFrontEnd.threshold_zero (l : LineFrontEnd) {sel : Fin 5} (h : sel.val = 0) : l.threshold sel = none := by
  simp only [LineFrontEnd.threshold, dif_pos h]

/-- A filter step keeps the selection and shows the pin (R70). -/
@[simp] theorem Line.step_selection (l : Line) (t : Option Nat) (pin : Bool) : (l.step t pin).selection = l.selection := by
  unfold Line.step; split
  · rfl
  · split
    · rfl
    · split <;> rfl

@[simp] theorem Line.step_raw (l : Line) (t : Option Nat) (pin : Bool) : (l.step t pin).raw = pin := by
  unfold Line.step; split
  · rfl
  · split
    · rfl
    · split <;> rfl

/-- Under a threshold of 1 or more a count below it stays below it (R70). -/
theorem Line.step_count_lt (l : Line) {t : Nat} (pin : Bool) (h : 1 ≤ t) : (l.step (some t) pin).count < t := by
  simp only [Line.step]; split
  · exact h
  · split
    · assumption
    · exact h

end Sys2Proof.Machine
end

