-- ==== Sys2Proof/Laws/Kinds.lean ====
section
/-! SUPPORT. The accumulator's steps, and what the operations of a measurement leave of a probe record. -/

namespace Sys2Proof.Machine

/-! ### The accumulator (R84) -/

theorem Accumulator.inc_of_saturated {a : Accumulator} (h : a.saturated = true) : a.inc = a := by simp [Accumulator.inc, h]

theorem Accumulator.dec_of_saturated {a : Accumulator} (h : a.saturated = true) : a.dec = a := by simp [Accumulator.dec, h]

theorem Accumulator.inc_at_limit {a : Accumulator} (h : a.saturated = false) (hv : a.value = accMax) :
    a.inc = { a with saturated := true } := by
  unfold Accumulator.inc; rw [if_neg (by simp [h]), if_pos hv]

theorem Accumulator.inc_below {a : Accumulator} (h : a.saturated = false) (hv : a.value ≠ accMax) :
    a.inc = { value := a.value + 1, saturated := a.value + 1 == accMax } := by
  unfold Accumulator.inc; rw [if_neg (by simp [h]), if_neg hv]

theorem Accumulator.dec_at_limit {a : Accumulator} (h : a.saturated = false) (hv : a.value = accMin) :
    a.dec = { a with saturated := true } := by
  unfold Accumulator.dec; rw [if_neg (by simp [h]), if_pos hv]

theorem Accumulator.dec_above {a : Accumulator} (h : a.saturated = false) (hv : a.value ≠ accMin) :
    a.dec = { value := a.value - 1, saturated := a.value - 1 == accMin } := by
  unfold Accumulator.dec; rw [if_neg (by simp [h]), if_neg hv]

/-! ### What a measurement leaves of the record (R81) -/

/-- Two records that agree but for the working values a measurement changes: the accumulator, open, the level in progress, the edge
count, the countdown, the next boundary and quad_errors (R81, R82). -/
def SameButWorking (a b : Probe) : Prop :=
  { b with acc := a.acc, windowOpen := a.windowOpen, levelHigh := a.levelHigh, edgeCount := a.edgeCount, countdown := a.countdown,
           nextBoundary := a.nextBoundary, quadErrors := a.quadErrors } = a

theorem SameButWorking.refl (a : Probe) : SameButWorking a a := rfl

theorem SameButWorking.trans {a b c : Probe} (h : SameButWorking a b) (k : SameButWorking b c) : SameButWorking a c := by
  unfold SameButWorking at *
  rw [← h, ← k]

theorem SameButWorking.state {a b : Probe} (h : SameButWorking a b) : b.state = a.state := by rw [← h]

theorem SameButWorking.plan {a b : Probe} (h : SameButWorking a b) : b.plan = a.plan := by rw [← h]

theorem SameButWorking.qual {a b : Probe} (h : SameButWorking a b) : b.qual = a.qual := by rw [← h]

theorem SameButWorking.waits {a b : Probe} (h : SameButWorking a b) : b.armedFrom = a.armedFrom ∧ b.startAt = a.startAt := by
  constructor <;> rw [← h]

theorem SameButWorking.counters {a b : Probe} (h : SameButWorking a b) :
    b.generated = a.generated ∧ b.transmitted = a.transmitted ∧ b.lost = a.lost := by
  refine ⟨?_, ?_, ?_⟩ <;> rw [← h]

theorem Probe.tickWindow_same (pr : Probe) : SameButWorking pr pr.tickWindow := by
  unfold Probe.tickWindow; split <;> rfl

theorem Probe.dropoutTick_same (pr : Probe) (pl : Plan) (a : View) (first : Bool) : SameButWorking pr (pr.dropoutTick pl a first) := by
  unfold Probe.dropoutTick
  cases first <;> cases a.rising <;> rfl

theorem measureBefore_same (pl : Plan) (a : View) (first : Bool) (now : Tick) (pr : Probe) :
    SameButWorking pr (measureBefore pl a first now pr).probe := by
  unfold measureBefore
  split
  · exact pr.tickWindow_same
  · exact pr.tickWindow_same
  · dsimp only
    split
    · exact pr.tickWindow_same.trans rfl
    · exact pr.tickWindow_same
  · rfl
  · rfl
  · rfl
  · exact pr.dropoutTick_same _ _ _

theorem Probe.countStep_same (pr : Probe) (pl : Plan) (a : View) (b : Option View) : SameButWorking pr (pr.countStep pl a b) := by
  unfold Probe.countStep
  split
  · split <;> rfl
  · split <;> rfl
  · split
    · rfl
    · split
      · rfl
      · split <;> rfl
  all_goals rfl

theorem measureAfter_same (pl : Plan) (a : View) (b : Option View) (completed : Bool) (pr : Probe) :
    SameButWorking pr (measureAfter pl a b completed pr) := by
  unfold measureAfter
  split
  · split <;> rfl
  · split <;> rfl
  · split <;> rfl
  · refine .trans ?_ (Probe.countStep_same _ _ _ _); cases completed <;> rfl
  · refine .trans ?_ (Probe.countStep_same _ _ _ _); cases completed <;> rfl
  · refine .trans ?_ (Probe.countStep_same _ _ _ _); cases completed <;> rfl
  · split <;> rfl

theorem Probe.firstMeasurement_same (pr : Probe) (lines : Vector Line 16) (now : Tick) :
    SameButWorking pr (pr.firstMeasurement lines now) := by
  unfold Probe.firstMeasurement
  split
  · rfl
  · exact (measureBefore_same _ _ _ _ _).trans (measureAfter_same _ _ _ _ _)

end Sys2Proof.Machine
end

