-- ==== Sys2Proof/Laws/Runs.lean ====
section
/-! SUPPORT. What the measurement of a tick, a window completion, a run start and a run end do, each said once. -/

namespace Sys2Proof.Machine

@[simp] theorem State.setProbe_setProbe (s : State) (p : ProbeId) (x y : Probe) : (s.setProbe p x).setProbe p y = s.setProbe p y := by
  simp [State.setProbe]

theorem State.setMark_setProbe (s : State) (p q : ProbeId) (x : Probe) (m : TickMark) :
    (s.setMark p m).setProbe q x = (s.setProbe q x).setMark p m := rfl

@[simp] theorem State.setProbe_self (s : State) (p : ProbeId) : s.setProbe p (s.probe p) = s := by
  simp [State.setProbe, State.probe]

/-! ### The measurement of a tick (R81, R83) -/

/-- The point at which a kind may complete is R83's condition. -/
theorem completes_iff {s : State} {p : ProbeId} {pl : Plan} :
    (measureBefore pl (pl.viewA s.lfe.lines) false s.timebase (s.probe p)).completes = true ↔ CompletesNow s p pl := by
  unfold measureBefore CompletesNow
  generalize pl.viewA s.lfe.lines = a
  cases hk : pl.kind
  · simp
  · simp
  · dsimp only
    cases hw : (s.probe p).windowOpen <;> cases hr : a.rising <;> simp [Probe.tickWindow, hw]
  · simp [Plan.continuous, hk, Kind.counting]
  · simp [Plan.continuous, hk, Kind.counting]
  · simp [Plan.continuous, hk, Kind.counting]
  · cases hr : a.rising <;> simp [Probe.dropoutTick, hr]

/-- The accumulator at that point is the one R83 hands to the completion. -/
theorem closingAccumulator_eq {s : State} {p : ProbeId} {pl : Plan} (h : CompletesNow s p pl) :
    (measureBefore pl (pl.viewA s.lfe.lines) false s.timebase (s.probe p)).probe.acc = closingAccumulator s p pl := by
  unfold measureBefore closingAccumulator
  unfold CompletesNow at h
  cases hk : pl.kind <;> simp only [hk] at h ⊢
  · simp [Probe.tickWindow, h.1]
  · simp [Probe.tickWindow, h.1]
  · simp [Probe.tickWindow, h.1, h.2.1]
  · cases hr : (pl.viewA s.lfe.lines).rising <;> simp [Probe.dropoutTick, hr]

theorem Measuring.measurementDue {s : State} {p : ProbeId} {pl : Plan} (h : Measuring s p pl) : s.measurementDue p = true := by
  simp [State.measurementDue, h.running, h.stepped, h.due]

theorem Measuring.accounted {s : State} {p : ProbeId} {pl : Plan} (h : Measuring s p pl) :
    s.accounted p pl = measureBefore pl (pl.viewA s.lfe.lines) false s.timebase (s.probe p) := by
  rw [State.accounted, h.due]; rfl

theorem Measuring.completionDue {s : State} {p : ProbeId} {pl : Plan} (h : Measuring s p pl) :
    s.completionDue p = true ↔ CompletesNow s p pl := by
  rw [← completes_iff]
  simp [State.completionDue, h.measurementDue, h.plan, h.due, h.accounted]

/-- No completion is due of a probe that is not RUNNING, before the lines' step, at a run's first tick, after the measurement of the tick, and
where R83's condition does not hold. -/
theorem completionDue_eq_false {s : State} {p : ProbeId}
    (h : (s.probe p).state ≠ .running ∨ s.lfe.stepped = false ∨ s.mark p ≠ .due ∨
      ∃ pl, (s.probe p).plan = some pl ∧ ¬ CompletesNow s p pl) : s.completionDue p = false := by
  rcases h with h | h | h | ⟨pl, hp, h⟩
  · simp [State.completionDue, State.measurementDue, h]
  · simp [State.completionDue, State.measurementDue, h]
  · cases hm : s.mark p with
    | due => exact absurd hm h
    | first => simp only [State.completionDue, hm]; cases (s.probe p).plan <;> simp
    | made => simp [State.completionDue, State.measurementDue, hm]
  · cases hm : s.mark p with
    | due =>
      have ha : s.accounted p pl = measureBefore pl (pl.viewA s.lfe.lines) false s.timebase (s.probe p) := by
        rw [State.accounted, hm]; rfl
      simp [State.completionDue, hp, hm, ha, mt completes_iff.1 h]
    | first => simp [State.completionDue, hp, hm]
    | made => simp [State.completionDue, State.measurementDue, hm]

/-- A measurement that completes no window makes the accounting of its kind and nothing else (R81). -/
theorem measureTick_incomplete {s : State} {p : ProbeId} {pl : Plan} (h : Measuring s p pl) (hc : ¬ CompletesNow s p pl) :
    exec (.probeMeasurement p) s =
      .next ((s.setProbe p
        (measureAfter pl (pl.viewA s.lfe.lines) (pl.viewB s.lfe.lines) false
          (measureBefore pl (pl.viewA s.lfe.lines) false s.timebase (s.probe p)).probe)).setMark p .made).resume := by
  have hn : s.completionDue p = false := by
    rw [← Bool.not_eq_true]; exact fun e => hc (h.completionDue.1 e)
  have key : exec (.probeMeasurement p) s = .next (measurementClaim p (continueOccasion false s)).resume := rfl
  rw [key, continueOccasion_of_none h.whole, measurementClaim, if_pos h.measurementDue, measureTick]
  simp [h.plan, hn, h.accounted, State.setMark_setProbe]

/-- A measurement that completes a window: the accounting up to the completion and then the completion (R65, R81). -/
theorem measureTick_complete {s : State} {p : ProbeId} {pl : Plan} (h : Measuring s p pl) (hc : CompletesNow s p pl) :
    measureTick p s =
      completeWindow p pl
        ((s.setProbe p (measureBefore pl (pl.viewA s.lfe.lines) false s.timebase (s.probe p)).probe).setMark p .made) := by
  have hn : s.completionDue p = true := h.completionDue.2 hc
  rw [measureTick]
  simp only [h.plan, hn, if_true, h.accounted]

/-- The measurement, the completion and the swap of a probe whose window completes are one claim (log 4). -/
theorem completionClaim_eq {s : State} {p : ProbeId} {pl : Plan} (h : Measuring s p pl) (hc : CompletesNow s p pl) :
    completionClaim p s = measurementClaim p s := by
  rw [completionClaim, if_pos (h.completionDue.2 hc), measurementClaim, if_pos h.measurementDue]

/-! ### What the claims keep -/

theorem startRun_keeps (p : ProbeId) (depth : Nat) (s : State) : ClaimKeeps s (startRun p depth s).state := by
  unfold startRun; dsimp only; split <;> exact ⟨rfl, .refl _, rfl, .refl _⟩

@[simp] theorem startRun_staging (p : ProbeId) (depth : Nat) (s : State) : (startRun p depth s).state.staging = s.staging := by
  unfold startRun; dsimp only; split <;> rfl

@[simp] theorem startRun_cpl (p : ProbeId) (depth : Nat) (s : State) : (startRun p depth s).state.cpl = s.cpl := by
  unfold startRun; dsimp only; split <;> rfl

@[simp] theorem startRun_rpq (p : ProbeId) (depth : Nat) (s : State) : (startRun p depth s).state.rpq = s.rpq := by
  unfold startRun; dsimp only; split <;> rfl

@[simp] theorem startRun_hli (p : ProbeId) (depth : Nat) (s : State) : (startRun p depth s).state.hli = s.hli := by
  unfold startRun; dsimp only; split <;> rfl

/-- A run start writes one probe record: the values of R51, with the first tick's measurement or without. -/
theorem startRun_probe (p : ProbeId) (depth : Nat) (s : State) :
    ∃ x, SameButWorking ((s.probe p).runStarted s.timebase) x ∧
      ∀ q, (startRun p depth s).state.probe q = if q = p then x else s.probe q := by
  unfold startRun; dsimp only
  split
  · exact ⟨_, Probe.firstMeasurement_same _ s.lfe.lines s.timebase, fun q => by simp [State.probe_setProbe]⟩
  · exact ⟨_, .refl _, fun q => by simp [State.probe_setProbe]⟩

theorem swapPending_cases (p : ProbeId) (s : State) :
    (s.pendingCommit p = none ∧ swapPending p s = .unchanged s) ∨
    (∃ pl es, s.pendingCommit p = some (pl, es) ∧
      (((s.probe p).state = .running ∧
          swapPending p s = startRun p 0 ((s.setProbe p ((s.probe p).installed pl es)).setStaging none)) ∨
        ((s.probe p).state ≠ .running ∧
          swapPending p s =
            { state := (s.setProbe p { (s.probe p).installed pl es with state := .ready }).setStaging none, events := [] }))) := by
  unfold swapPending
  cases h : s.pendingCommit p with
  | none => exact .inl ⟨rfl, rfl⟩
  | some c =>
    obtain ⟨pl, es⟩ := c
    refine .inr ⟨pl, es, rfl, ?_⟩
    have hs : ((s.probe p).installed pl es).state = (s.probe p).state := rfl
    dsimp only
    by_cases hr : (s.probe p).state = .running
    · exact .inl ⟨hr, by rw [hs, if_pos hr]⟩
    · exact .inr ⟨hr, by rw [hs, if_neg hr]⟩

theorem swapPending_keeps (p : ProbeId) (s : State) : ClaimKeeps s (swapPending p s).state := by
  rcases swapPending_cases p s with ⟨-, e⟩ | ⟨pl, es, -, ⟨-, e⟩ | ⟨-, e⟩⟩ <;> rw [e]
  · exact .refl _
  · exact (⟨rfl, .refl _, rfl, .refl _⟩ : ClaimKeeps s ((s.setProbe p ((s.probe p).installed pl es)).setStaging none)).trans
      (startRun_keeps _ _ _)
  · exact ⟨rfl, .refl _, rfl, .refl _⟩

theorem endRun_keeps (p : ProbeId) (pl : Plan) (o : RunOutcome) (byStop : Bool) (s : State) : ClaimKeeps s (endRun p pl o byStop s) :=
  (⟨rfl, .refl _, rfl, .refl _⟩ : ClaimKeeps s (s.setProbe p _)).trans (State.generate_keeps _ _ _)

theorem stopRun_keeps (p : ProbeId) (o : RunOutcome) (depth : Nat) (s : State) : ClaimKeeps s (stopRun p o depth s).state := by
  unfold stopRun; dsimp only
  refine .trans ?_ (swapPending_keeps _ _)
  split
  · exact ⟨rfl, .refl _, rfl, .refl _⟩
  · exact endRun_keeps _ _ _ _ _

theorem takeIn_keeps (p : ProbeId) (s : State) : ClaimKeeps s (takeIn p s) := by
  unfold takeIn; split
  · exact (madeStep_keeps s).trans ⟨rfl, .refl _, rfl, .refl _⟩
  · exact .refl _

/-- What a run's first tick contributes changes the working values of its record and no other record (R51, R81). -/
theorem takeIn_probe (p : ProbeId) (s : State) (q : ProbeId) : SameButWorking (s.probe q) ((takeIn p s).probe q) := by
  unfold takeIn; split
  · dsimp only
    rw [State.setMark_probe, State.probe_setProbe, madeStep_probe, madeStep_probe]
    split
    · rename_i h; rw [h]; exact Probe.firstMeasurement_same _ _ _
    · exact .refl _
  · exact .refl _

/-- A choice uses the schedule alone. -/
theorem choose_keeps (s : State) (n : Nat) : ClaimKeeps s (s.choose n).state := by
  obtain ⟨sch, e⟩ := s.choose_state n
  rw [e]; exact ⟨rfl, .refl _, rfl, .refl _⟩

theorem offerReports_keeps (pauses : Bool) (p : ProbeId) (bodies : List ReportBody) (lost : Bool) (s : State) :
    ClaimKeeps s (offerReports pauses p bodies lost s).state := by
  induction bodies generalizing lost s with
  | nil => exact .refl _
  | cons b bs ih =>
    unfold offerReports State.standing; dsimp only
    split
    · exact choose_keeps _ _
    · exact (choose_keeps _ _).trans ((State.generate_keeps _ _ _).trans (ih _ _))

theorem finishWindow_keeps (p : ProbeId) (pl : Plan) (result : QualResult) (ended : Bool) (s : State) :
    ClaimKeeps s (finishWindow p pl result ended s) := by
  unfold finishWindow; dsimp only
  have h : ClaimKeeps s ((swapPending p s).state.raise (completionEvents p result ended ++ (swapPending p s).events)) :=
    (swapPending_keeps p s).trans ⟨rfl, .refl _, rfl, .refl _⟩
  split
  · exact h.trans ⟨rfl, .refl _, rfl, .refl _⟩
  · exact h

/-- Everything steps 6 to 9 can do: the run continues; it ends with its END report offered; or the completion stands before that offer. -/
theorem closeWindow_cases (pauses : Bool) (p : ProbeId) (pl : Plan) (result : QualResult) (lost : Bool) (s : State) :
    (runEndDecision pl result lost (s.probe p).windowsDone = none ∧
      closeWindow pauses p pl result lost s = finishWindow p pl result false s) ∨
    ∃ o, runEndDecision pl result lost (s.probe p).windowsDone = some o ∧
      (((s.standing pauses).index = 1 ∧ closeWindow pauses p pl result lost s =
          (s.standing pauses).state.setOccasion (some { probe := p, result := result, remaining := [], lost := lost })) ∨
        ((s.standing pauses).index ≠ 1 ∧ closeWindow pauses p pl result lost s =
          finishWindow p pl result true (endRun p pl o false (s.standing pauses).state))) := by
  unfold closeWindow
  cases runEndDecision pl result lost (s.probe p).windowsDone with
  | none => exact .inl ⟨rfl, rfl⟩
  | some o =>
    refine .inr ⟨o, rfl, ?_⟩
    by_cases h : (s.standing pauses).index = 1
    · exact .inl ⟨h, if_pos h⟩
    · exact .inr ⟨h, if_neg h⟩

theorem closeWindow_keeps (pauses : Bool) (p : ProbeId) (pl : Plan) (result : QualResult) (lost : Bool) (s : State) :
    ClaimKeeps s (closeWindow pauses p pl result lost s) := by
  rcases closeWindow_cases pauses p pl result lost s with ⟨-, e⟩ | ⟨o, -, ⟨-, e⟩ | ⟨-, e⟩⟩ <;> rw [e]
  · exact finishWindow_keeps _ _ _ _ _
  · exact (choose_keeps _ _).trans ⟨rfl, .refl _, rfl, .refl _⟩
  · exact (choose_keeps _ _).trans ((endRun_keeps _ _ _ _ _).trans (finishWindow_keeps _ _ _ _ _))

theorem offerAndClose_keeps (pauses : Bool) (p : ProbeId) (pl : Plan) (result : QualResult) (bodies : List ReportBody) (lost : Bool)
    (s : State) : ClaimKeeps s (offerAndClose pauses p pl result bodies lost s) := by
  unfold offerAndClose; dsimp only
  split
  · exact (offerReports_keeps _ _ _ _ _).trans ⟨rfl, .refl _, rfl, .refl _⟩
  · exact (offerReports_keeps _ _ _ _ _).trans (closeWindow_keeps _ _ _ _ _ _)

theorem completeWindow_keeps (p : ProbeId) (pl : Plan) (s : State) : ClaimKeeps s (completeWindow p pl s) :=
  (⟨rfl, .refl _, rfl, .refl _⟩ : ClaimKeeps s (s.setProbe p ((s.probe p).formWindow pl).probe)).trans (offerAndClose_keeps _ _ _ _ _ _ _)

theorem continueOccasion_keeps (pauses : Bool) (s : State) : ClaimKeeps s (continueOccasion pauses s) := by
  unfold continueOccasion
  split
  · exact .refl _
  · have h (o : Option Occasion) : ClaimKeeps s (s.setOccasion o) := ⟨rfl, .refl _, rfl, .refl _⟩
    dsimp only
    split
    · exact h _
    · split
      · exact (h _).trans (offerAndClose_keeps _ _ _ _ _ _ _)
      · exact h _

theorem measureTick_keeps (p : ProbeId) (s : State) : ClaimKeeps s (measureTick p s) := by
  unfold measureTick
  split
  · exact .refl _
  · dsimp only
    split
    · exact (⟨rfl, .refl _, rfl, .refl _⟩ : ClaimKeeps s ((s.setProbe p _).setMark p .made)).trans (completeWindow_keeps _ _ _)
    · exact ⟨rfl, .refl _, rfl, .refl _⟩

end Sys2Proof.Machine
end

