-- ==== Sys2Proof/Laws/Chains.lean ====
section
/-! SUPPORT. What an action, its count and a whole chain can do, each said once. -/

namespace Sys2Proof.Machine

/-! ### One action (R50, R135, R136) -/

/-- Everything a target can do with an action: miss, start, end its run, cancel its wait, or report its accumulator. -/
theorem takeAction_cases (p : ProbeId) (a : Action) (depth : Nat) (s : State) :
    (takeAction p a depth s = { effect := .unchanged s, fired := false }) ∨
    (a = .start ∧ ((s.probe p).state = .ready ∨ (s.probe p).state = .done ∨ (s.probe p).state = .armed) ∧
      takeAction p a depth s = { effect := startRun p depth s, fired := true }) ∨
    (a = .stop ∧ (s.probe p).state = .running ∧ takeAction p a depth s = { effect := stopRun p .linked depth (takeIn p s), fired := true }) ∨
    (a = .stop ∧ (s.probe p).state = .armed ∧
      takeAction p a depth s = { effect := .unchanged (s.setProbe p (s.probe p).waitCancelled), fired := true }) ∨
    (a = .snapshot ∧ (s.probe p).state = .running ∧ ∃ pl, (s.probe p).plan = some pl ∧ pl.kind.counting = true ∧
      takeAction p a depth s =
        { effect := .unchanged (snapshotReport p pl (takeIn p s)), fired := true }) := by
  cases a with
  | start => cases h : (s.probe p).state <;> simp [takeAction, h]
  | stop => cases h : (s.probe p).state <;> simp [takeAction, h]
  | snapshot =>
    cases hp : (s.probe p).plan with
    | none => exact .inl (by simp [takeAction, hp])
    | some pl =>
      by_cases hc : (s.probe p).state = .running ∧ pl.kind.counting = true
      · exact .inr (.inr (.inr (.inr ⟨rfl, hc.1, pl, rfl, hc.2, by simp [takeAction, hp, hc]⟩)))
      · exact .inl (by simp [takeAction, hp, hc])

theorem takeAction_keeps (p : ProbeId) (a : Action) (depth : Nat) (s : State) :
    ClaimKeeps s (takeAction p a depth s).effect.state := by
  rcases takeAction_cases p a depth s with e | ⟨-, -, e⟩ | ⟨-, -, e⟩ | ⟨-, -, e⟩ | ⟨-, -, pl, -, -, e⟩ <;> rw [e]
  · exact .refl _
  · exact startRun_keeps _ _ _
  · exact (takeIn_keeps _ _).trans (stopRun_keeps _ _ _ _)
  · exact ⟨rfl, .refl _, rfl, .refl _⟩
  · exact (takeIn_keeps _ _).trans (State.generate_keeps _ _ _)

/-! ### The chains (R134, R137, R138) -/

/-- Everything the table can do with an event: its couplings' actions wait, or they are cut and counted. -/
theorem takeEvent_cases (e : Event) (s : State) :
    (e.depth < 4 ∧ takeEvent e s = s.setActions (s.actions ++ (s.cpl.matching e.source e.kind).map fun sc =>
      { slot := sc.1, target := sc.2.target, action := sc.2.action, depth := e.depth + 1 })) ∨
    (4 ≤ e.depth ∧
      takeEvent e s = s.setCpl { s.cpl with cascadeCut := satAdd s.cpl.cascadeCut (s.cpl.matching e.source e.kind).length }) := by
  by_cases hd : e.depth < Config.cascadeDepth
  · exact .inl ⟨hd, if_pos hd⟩
  · exact .inr ⟨Nat.le_of_not_lt hd, if_neg hd⟩

/-- What holds before the chains go on and is kept by every change they make holds after: the order taken from the schedule, the lists of
what waits, one action, its count, and the cut couplings counted. -/
structure ChainKept (P : State → Prop) : Prop where
  schedule : ∀ s sch, P s → P (s.setSchedule sch)
  raised : ∀ s es, P s → P (s.setRaised es)
  actions : ∀ s ws, P s → P (s.setActions ws)
  action : ∀ s p a depth, P s → P (takeAction p a depth s).effect.state
  count : ∀ s i fired, P s → P (countAction i fired s)
  cut : ∀ s n, P s → P (s.setCpl { s.cpl with cascadeCut := satAdd s.cpl.cascadeCut n })

theorem ChainKept.choose {P : State → Prop} (k : ChainKept P) {s : State} (h : P s) (n : Nat) : P (s.choose n).state := by
  obtain ⟨sch, e⟩ := s.choose_state n
  rw [e]; exact k.schedule _ _ h

theorem ChainKept.takeWaiting {P : State → Prop} (k : ChainKept P) {s : State} (h : P s) (i : Nat) : P (takeWaiting i s) := by
  unfold Machine.takeWaiting
  split
  · exact h
  · exact k.raised _ _ (k.count _ _ _ (k.action _ _ _ _ (k.actions _ _ h)))

theorem ChainKept.takeRaised {P : State → Prop} (k : ChainKept P) {s : State} (h : P s) (i : Nat) : P (takeRaised i s) := by
  unfold Machine.takeRaised
  split
  · exact h
  · rename_i e _
    rcases takeEvent_cases e (s.setRaised (s.raised.eraseIdx i)) with ⟨-, q⟩ | ⟨-, q⟩ <;> rw [q]
    · exact k.actions _ _ (k.raised _ _ h)
    · exact k.cut _ _ (k.raised _ _ h)

theorem ChainKept.takeClaim {P : State → Prop} (k : ChainKept P) {s : State} (h : P s) (i : Nat) : P (takeClaim i s) := by
  unfold Machine.takeClaim
  split
  · exact k.takeRaised h _
  · exact k.takeWaiting h _

/-- Where an event waits, one of them can come next (R133). -/
theorem State.nextEvents_ne_nil {s : State} (h : s.raised ≠ []) : s.nextEvents ≠ [] := by
  have h0 : 0 < s.raised.length := List.length_pos_iff.2 h
  refine List.ne_nil_of_mem (a := 0) (List.mem_filter.2 ⟨List.mem_range.2 h0, ?_⟩)
  simp [oldestOfItsSource, List.getElem?_eq_getElem h0]

theorem ChainKept.runChain {P : State → Prop} (k : ChainKept P) (pauses : Bool) (n : Nat) {s : State} (h : P s) :
    P (runChain pauses n s) := by
  induction n generalizing s with
  | zero => exact h
  | succ n ih =>
    unfold Machine.runChain; dsimp only
    split
    · exact h
    · split
      · exact ih (k.takeClaim (k.choose h _) _)
      · exact k.choose h _

theorem ChainKept.takeActions {P : State → Prop} (k : ChainKept P) (n : Nat) {s : State} (h : P s) : P (takeActions n s) := by
  induction n generalizing s with
  | zero => exact h
  | succ n ih => exact ih (k.takeWaiting (k.choose h _) _)

theorem countAction_keeps (i : SlotId) (fired : Bool) (s : State) : ClaimKeeps s (countAction i fired s) := by
  unfold countAction; split
  · exact .refl _
  · exact ⟨rfl, .refl _, rfl, .refl _⟩

theorem chainKept_keeps (s : State) : ChainKept (ClaimKeeps s) where
  schedule _ _ h := h.trans ⟨rfl, .refl _, rfl, .refl _⟩
  raised _ _ h := h.trans ⟨rfl, .refl _, rfl, .refl _⟩
  actions _ _ h := h.trans ⟨rfl, .refl _, rfl, .refl _⟩
  action _ _ _ _ h := h.trans (takeAction_keeps _ _ _ _)
  count _ _ _ h := h.trans (countAction_keeps _ _ _)
  cut _ _ h := h.trans ⟨rfl, .refl _, rfl, .refl _⟩

/-- What goes on behind a command keeps the timebase, the lines but for this tick's step, the commands, and the link but for the
transmitter and the sequence number. -/
theorem State.resume_keeps (s : State) : ClaimKeeps s s.resume := by
  unfold State.resume; dsimp only
  split
  · exact continueOccasion_keeps _ _
  · exact (chainKept_keeps s).runChain _ _ (continueOccasion_keeps _ _)

theorem State.finish_keeps (s : State) : ClaimKeeps s s.finish :=
  (chainKept_keeps s).runChain _ _ (continueOccasion_keeps _ _)

/-- Without a pause a completion is made to its end. -/
theorem offerReports_whole (p : ProbeId) (bodies : List ReportBody) (lost : Bool) (s : State) :
    (offerReports false p bodies lost s).remaining = none := by
  induction bodies generalizing lost s with
  | nil => rfl
  | cons b bs ih =>
    unfold offerReports; dsimp only
    have h : (s.standing false).index = 0 := rfl
    rw [if_neg (by rw [h]; decide)]
    exact ih _ _

end Sys2Proof.Machine
end

