-- ==== Sys2Proof/WellFormed.lean ====
section
/-! DEFINITION. Which commands can occur on the link: DATA holds 0..248 bytes (R169). Every other operand is typed at the width its
rule gives, and its undefined values have a reply of their own (R195). -/

namespace Sys2Proof

/-- The DATA of a frame holds at most 248 bytes (R169). -/
def dataFits (data : List Byte) : Bool := decide (data.length ≤ 248)

/-- STAGE_EDGES carries 2 bytes and 4 for each edge (R193), so a frame can hold at most 61 edges. -/
def edgesFit (edges : List Sample32) : Bool := decide (2 + 4 * edges.length ≤ 248)

/-- The command can be carried by a frame. -/
def Instr.wellFormed : Instr → Bool
  | .frameAccept _ _ data => dataFits data
  | .stageEdges _ _ _ edges => edgesFit edges
  | .pinReset _ _ _ => true
  | .lineFilterStep _ => true
  | .probeMeasurement _ => true
  | .windowCompletion _ => true
  | .swap _ => true
  | .armedDeadline _ => true
  | .leaseExpiry => true
  | .characterReceived _ => true
  | .gapError => true
  | .lineBreak => true
  | .replyTransmit => true
  | .reportDequeue => true
  | .frameEnd => true
  | .deviceResetEffect _ _ _ => true
  | .status _ _ => true
  | .deviceReset _ => true
  | .credit _ _ _ => true
  | .time _ => true
  | .lineSet _ _ _ => true
  | .lineRead _ => true
  | .profileSet _ _ _ => true
  | .stageBegin _ _ _ => true
  | .stageParams _ _ _ => true
  | .stageCommit _ _ _ => true
  | .stageAbort _ _ => true
  | .start _ _ => true
  | .startAt _ _ _ => true
  | .arm _ _ => true
  | .stop _ _ => true
  | .probeReset _ _ => true
  | .probeRead _ _ => true
  | .snapshot _ _ => true
  | .histRead _ _ _ => true
  | .histClear _ _ => true
  | .coupleAdd _ _ _ _ _ => true
  | .coupleRemove _ _ => true
  | .coupleList _ => true
  | .timebaseAdvance _ => true
  | .characterDiscarded => true

end Sys2Proof
end

