-- ==== Sys2Proof/Tests/Slice0.lean ====
section
/-! SUPPORT. Tests of the model against the manual's own examples, and for every statement with hypotheses a concrete state and operands
that meet them. Expected results are the manual's, or computed by hand from its rules. -/

namespace Sys2Proof.Tests

open Sys2Proof.Machine

/-! ### Builders -/

/-- The state a command leaves. -/
def ran (c : Instr) (s : State) : State :=
  match exec c s with
  | .next t => t
  | .fault _ => s
  | .refused _ => s

/-- A windowed COUNT plan on line 0, ungated: window 100, quota 4, report_select EVERY. -/
def countPlan : Plan where
  kind := .count
  lineA := 0
  invertA := false
  lineB := none
  invertB := false
  window := 100
  span := 0
  maxWindows := 0
  minWindows := 0
  qualDepth := 0
  tolKind := .abs
  tol := 0
  onSettle := .continue
  reportSelect := .every
  quota := 4
  lossPolicy := .count
  edgeCount := 0

/-- The same plan with another kind, line B where the kind needs one. -/
def planOf (k : Kind) (lineB : Option LineId) (window : BitVec 32) : Plan := { countPlan with kind := k, lineB := lineB, window := window }

/-- A probe of generation 3 in a state, under a plan. -/
def probeIn (st : ProbeState) (pl : Plan) : Probe := { Probe.reset with state := st, plan := some pl, generation := 3 }

/-- The part at reset but for probe 0. -/
def withP0 (pr : Probe) : State := State.reset.setProbe 0 pr

/-- A line with its filtered level of this tick and of the tick before. -/
def lineAt (before now : Bool) : Line := { Line.reset with raw := now, filtered := now, before := before }

/-- Tick 600 with its filter step made, lines 0 and 1 as given and probe 0 as given. -/
def live (pr : Probe) (a b : Line) : State :=
  { withP0 pr with
    timebase := 600
    lfe := { LineFrontEnd.reset with lines := (LineFrontEnd.reset.lines.set 0 a).set 1 b, fresh := false, stepped := true } }

def high : Line := lineAt true true
def low : Line := lineAt false false
def rises : Line := lineAt false true
def falls : Line := lineAt true false

/-- The coupling of slot 0: a RUN_START of probe 0 starts probe 1. -/
def ring : Coupling := { source := 0, event := .runStart, target := 1, action := .start, fires := 0, misses := 0 }

def withSlot0 (c : Coupling) (s : State) : State := s.setCpl { s.cpl with slots := s.cpl.slots.set 0 (some c) }

/-- A state whose link is as after reset admits every frame. -/
theorem admitted_of_link {s : State} (h : s.hli = State.reset.hli) (kind tag : Byte) : Admitted s kind tag := by
  refine ⟨by rw [h]; rfl, by rw [h]; decide, .inr fun e he => ?_⟩
  rw [h] at he; simp [State.reset, State.afterReset, HostLink.reset] at he

/-- Where no completion stands between two offers, it accepts every frame. -/
theorem accepts_of_link {s : State} (h : s.hli = State.reset.hli) (ho : s.occasion = none) (kind tag : Byte) : Accepts s kind tag :=
  ⟨admitted_of_link h kind tag, ho⟩

theorem live_measuring (st : Probe) (pl : Plan) (a b : Line) (h : st.state = .running) (hp : st.plan = some pl) :
    Measuring (live st a b) 0 pl := ⟨rfl, h, hp, rfl, rfl⟩

/-! ### Well-formedness -/

theorem test_frame_data_limit : Instr.wellFormed (.frameAccept 0x04 0 (List.replicate 248 0)) = true := by
  rw [Instr.wellFormed, dataFits, List.length_replicate]; rfl
theorem test_frame_data_too_long : Instr.wellFormed (.frameAccept 0x04 0 (List.replicate 249 0)) = false := by
  rw [Instr.wellFormed, dataFits, List.length_replicate]; rfl
theorem test_edges_limit : Instr.wellFormed (.stageEdges 0 0 0 (List.replicate 61 0)) = true := by
  rw [Instr.wellFormed, edgesFit, List.length_replicate]; rfl
theorem test_edges_too_many : Instr.wellFormed (.stageEdges 0 0 0 (List.replicate 62 0)) = false := by
  rw [Instr.wellFormed, edgesFit, List.length_replicate]; rfl

/-! ### Frames and layouts (chapters 9 and 10) -/

/-- The test value of R170: the characters 1 to 9. -/
theorem test_crc_check_value : crc [0x31, 0x32, 0x33, 0x34, 0x35, 0x36, 0x37, 0x38, 0x39] = 0x29B1#16 := by decide +kernel

/-- The example of R191: START for probe 3 with the start tick 0000_0001_2345h. -/
theorem test_decode_start_at :
    decodeRequest 0x30 [0x03, 0x45, 0x23, 0x01, 0x00, 0x00, 0x00] = .ok (.startAt 3 0x12345) := by decide

theorem test_decode_start : decodeRequest 0x30 [0x03] = .ok (.start 3) := by decide
theorem test_decode_lease : decodeRequest 0x20 [0x0F, 0x78, 0x56, 0x34, 0x12] = .ok (.stageBegin 0x0F 0x12345678) := by decide
theorem test_decode_threshold : decodeRequest 0x12 [0x02, 0xFF, 0x0F] = .ok (.profileSet 2 4095) := by decide
theorem test_decode_edges :
    decodeRequest 0x22 [0x01, 0x00, 0xFF, 0xFF, 0xFF, 0xFF, 0x02, 0x00, 0x00, 0x00] = .ok (.stageEdges 1 0 [0xFFFFFFFF, 2]) := by decide
theorem test_decode_bad_kind : decodeRequest 0x36 [0x01] = .error .badKind := by decide
theorem test_decode_bad_length : decodeRequest 0x32 [] = .error .badLength := by decide

/-- The 24 bytes of R194 land in their fields. -/
theorem test_decode_plan_record :
    decodeRequest 0x21 [0x05, 0x02, 0x09, 0x0A, 0x07, 0x01, 0x02, 0x03, 0x04, 0x11, 0x00, 0x33, 0x22, 0x11, 0x44, 0x08, 0xFF, 0xFF, 0x01,
        0x00, 0x00, 0x01, 0x20, 0x01, 0x1F] =
      .ok (.stageParams 5
        { kind := 2, lineA := 9, lineB := 0x0A, flags := 7, window := 0x04030201, span := 0x0011, maxWindows := 0x112233,
          minWindows := 0x44, qualDepth := 8, tol := 0x0001FFFF, onSettle := 0, reportSelect := 1, quota := 0x20, lossPolicy := 1,
          edgeCount := 0x1F }) := by decide

/-- R196: the BOOT report frame has LEN 15 and is 19 bytes; the first report after reset has sequence number 0. -/
theorem test_boot_frame :
    (ran .reportDequeue { State.reset with rpq := { State.reset.rpq with credits := 16 } }).hli.transmitter.map (fun f => f.bytes.take 17) =
      some [0xB6, 15, 0x65, 0, 0xFF, 0, 0, 0, 0, 0, 0, 0, 1, 16, 16, 64, 24] := by decide

/-- R195: the reply to TIME is of 7 bytes. -/
theorem test_time_reply :
    (ran (.time 9) { State.reset with timebase := 0x123456789ABC }).hli.replies.map (fun m => (m.kind, m.tag, m.data)) =
      [(0x84, 9, [0, 0xBC, 0x9A, 0x78, 0x56, 0x34, 0x12])] := by decide

/-- R9: PROBE_READ of a FREE probe carries the state alone. -/
theorem test_probe_read_free : (ran (.probeRead 9 7) State.reset).hli.replies.map (·.data) = [[0, 0]] := by decide

/-- R49, R195, R198: the reply to a STOP carries DONE and the generation, and its DATA is the two bytes of R195's table. -/
theorem test_stop_reply :
    let t := ran (.stop 9 0) (withP0 (probeIn .running countPlan))
    t.hli.replies = [{ kind := 0xB2, tag := 9, reply := .stop .done 3 }] ∧ t.hli.replies.map (·.data) = [[0, 4]] := by decide

/-- R168, R189: LRX high at the reset and low at tick 0 is a fall at tick 0. -/
theorem test_fall_at_tick_zero :
    (ran (.pinReset false false true) { State.reset with schedule := [1] }).hli.byteRx.phase = .confirming 0 ∧
    (ran (.pinReset false false true) State.reset).hli.byteRx.phase = .watching := by decide

/-- The cache of R178 row by row, by tag and kind. -/
theorem test_cache_sequence :
    let entry (k : RequestKind) (tag : Byte) : CacheEntry := { tag := tag, kind := k.code, reply := { kind := 0, tag := tag, reply := .deviceReset } }
    (([entry .probeRead 5, entry .start 6, entry .stop 5, entry .time 7, entry .credit 8, entry .lineRead 9, entry .start 6].foldl
        storeReply []).map fun e => (e.tag, e.kind)) =
      [(7, 0x04), (8, 0x03), (9, 0x11), (6, 0x30)] := by decide

/-- R184 with R196: a WINDOW report frame of 24 bytes occupies LTX for 3,840 ticks at D = 1. -/
theorem test_window_frame_ticks :
    let w : Report := .probe 2 3 110000 0 (.window ⟨false, false, false, false⟩ 7 1)
    State.reset.hli.frameTicks { bytes := frameBytes w.kind 0 w.data, begun := 0, resetReply := false } = 3840 := by decide

/-- R173: two byte times of low are a break, counted once. -/
theorem test_break_counted_once :
    (ran .lineBreak (ran .lineBreak State.reset)).hli.counters.lineBreak = 1 := by decide

/-! ### Lines and timebase (chapter 4) -/

/-- The filter waveform of R70: threshold 3, ticks 11 to 21. -/
theorem test_filter_waveform :
    let pins := [true, true, false, true, true, true, true, false, false, false, false]
    let runs := (pins.scanl (fun l b => l.step (some 3) b) low).drop 1
    runs.map (fun l => l.count) = [1, 2, 0, 1, 2, 0, 0, 1, 2, 0, 0] ∧
    runs.map (fun l => l.filtered) = [false, false, false, false, false, true, true, true, true, false, false] ∧
    runs.map (fun l => (l.view false).rising) = [false, false, false, false, false, true, false, false, false, false, false] ∧
    runs.map (fun l => (l.view true).rising) = [false, false, false, false, false, false, false, false, false, true, false] := by decide

/-- R79: the future test across the wrap, of a past tick, and at exactly half the count. -/
theorem test_future :
    isFuture 0x100 0xFFFFFFFFFF00 = true ∧ isFuture 0xFFFFFFFFFE00 0xFFFFFFFFFF00 = false ∧ isFuture 7 7 = false ∧
    isFuture 0x800000000000 0 = false ∧ isFuture 0x7FFFFFFFFFFF 0 = true := by decide

/-! ### Plans and staging (chapters 1 and 2) -/

/-- R22: an UPDOWN plan without qualification must still carry ABS (check 13), and an undefined on_settle is refused (check 15). -/
theorem test_validation_of_unused_fields :
    let updown := (planOf .updown (some 1) 100).record
    validate { updown with flags := 4 } = .error { reason := .relNotAllowed, field := 11 } ∧
    validate { updown with onSettle := 2 } = .error { reason := .selectRange, field := 13 } ∧
    validate updown = .ok (planOf .updown (some 1) 100) := by decide

/-- R32: 20 edges are 8, 8 and 4; 31 are 8, 8, 8 and 7. -/
theorem test_chunks :
    ({ countPlan with edgeCount := 20 }.chunks, { countPlan with edgeCount := 20 }.chunkEdges 2) = (3, 4) ∧
    ({ countPlan with edgeCount := 31 }.chunks, { countPlan with edgeCount := 31 }.chunkEdges 3) = (4, 7) ∧
    countPlan.chunks = 0 := by decide

/-- R34: with E8 = 800, a chunk of 800 and 900 is refused with EDGE_ORDER 9, and 850 and 900 is accepted; edges are signed. -/
theorem test_edge_order :
    offendingEdge (some 800) 9 [800, 900] = some 9 ∧ offendingEdge (some 800) 9 [850, 900] = none ∧
    offendingEdge none 1 [0xFFFFFFFF, 0, 1] = none ∧ offendingEdge none 1 [5, 4] = some 2 := by decide

/-- R36: an installation clears the run record, raises the generation and makes an empty histogram. -/
theorem test_commit_installs :
    let s : State := { withP0 (probeIn .done countPlan) with
      staging := some { owner := 0, stage := .complete 500 500 { countPlan with edgeCount := 2 } [10, 20] } }
    let t := ran (.stageCommit 1 0 0) s
    (t.probe 0).state = .ready ∧ (t.probe 0).generation = 4 ∧ t.staging = none ∧
      (t.probe 0).qual.histogram = some { edges := [10, 20], bins := [0, 0, 0], total := 0 } := by decide

/-! ### Measurement (chapter 5) -/

/-- The DROPOUT expiries of R100: 50 after the edge, with timeout 50; the countdown is then full again. -/
theorem test_dropout_expires :
    let pr := { probeIn .running (planOf .dropout none 50) with acc := { value := 49, saturated := false }, countdown := 1 }
    let t := ran (.probeMeasurement 0) (live pr low low)
    (t.probe 0).lastSample.map (fun x => x.value) = some 50 ∧ (t.probe 0).countdown = 50 ∧ (t.probe 0).acc.value = 50 := by decide

/-- R91: an edge at a boundary belongs to the new window. -/
theorem test_count_edge_at_boundary :
    let pr := { probeIn .running countPlan with acc := { value := 7, saturated := false }, nextBoundary := 600 }
    let t := ran (.probeMeasurement 0) (live pr rises low)
    (t.probe 0).lastSample.map (fun x => x.value) = some 7 ∧ (t.probe 0).acc.value = 1 ∧ (t.probe 0).nextBoundary = 700 := by decide

/-- R85: the level that ends is HIGH, and the edge opens the next. -/
theorem test_level_time_completes :
    let pr := { probeIn .running (planOf .levelTime none 0) with
      acc := { value := 9, saturated := false }, windowOpen := true, levelHigh := true }
    let t := ran (.probeMeasurement 0) (live pr falls low)
    (t.probe 0).lastSample = some { value := 10, saturated := false, level := true } ∧ (t.probe 0).acc.value = 0 ∧
      (t.probe 0).levelHigh = false ∧ (t.probe 0).windowOpen = true := by decide

/-- R87: after its falling edge the accumulator of HIGH_TIME keeps the window's value. -/
theorem test_high_time_completes :
    let pr := { probeIn .running (planOf .highTime none 0) with acc := { value := 9, saturated := false }, windowOpen := true }
    let t := ran (.probeMeasurement 0) (live pr falls low)
    (t.probe 0).acc.value = 10 ∧ (t.probe 0).windowOpen = false ∧ (t.probe 0).windowsDone = 1 := by decide

/-- R89: the second rising edge of a span of 2 completes it, and a first does not. -/
theorem test_span_counts_edges :
    let pl := { planOf .span none 0 with span := 2 }
    let pr := { probeIn .running pl with windowOpen := true }
    let before := ran (.probeMeasurement 0) (live pr rises low)
    let after := ran (.probeMeasurement 0) (live { pr with edgeCount := 1 } rises low)
    ((before.probe 0).windowsDone, (before.probe 0).edgeCount) = (0, 1) ∧
      ((after.probe 0).windowsDone, (after.probe 0).edgeCount) = (1, 0) := by decide

/-- R95: the eight rows of the quadrature table. -/
theorem test_quadrature_table :
    let step (a b : Line) := ({ probeIn .running (planOf .quad (some 1) 0) with acc := .cleared }.countStep (planOf .quad (some 1) 0)
      (a.view false) (some (b.view false))).acc.value
    [step rises low, step rises high, step high rises, step low rises, step falls high, step falls low, step low falls, step high falls] =
      [1, 0xFFFFFFFF, 1, 0xFFFFFFFF, 1, 0xFFFFFFFF, 1, 0xFFFFFFFF] := by decide

/-- R96: both lines at once is an illegal step. -/
theorem test_quadrature_illegal :
    let t := ran (.probeMeasurement 0) (live (probeIn .running (planOf .quad (some 1) 0)) rises falls)
    (t.probe 0).quadErrors = 1 ∧ (t.probe 0).acc.value = 0 := by decide

/-! ### Qualification (chapter 6) -/

/-- R112: tol 3 passes a spread of 3 and fails a spread of 4. -/
theorem test_abs_examples :
    let pl := { countPlan with tol := 3 }
    historyPasses pl [1000, 1002, 999] = true ∧ historyPasses pl [1000, 1002, 998] = false := by decide

/-- R113: 1000, 1010, 1005, 1008 passes with tol 655 and fails with tol 640. -/
theorem test_rel_examples :
    let pl := { countPlan with tolKind := .rel, tol := 655 }
    historyPasses pl [1000, 1010, 1005, 1008] = true ∧ historyPasses { pl with tol := 640 } [1000, 1010, 1005, 1008] = false ∧
      historyPasses pl [0, 0] = true := by decide

/-- R120: the bins of 50, 100, 199, 250, 300 and 5000 between 100, 200 and 300. -/
theorem test_bins : [50, 100, 199, 250, 300, 5000].map (binOf [100, 200, 300]) = [0, 1, 1, 2, 3, 3] := by decide

/-- The plan and last completion of chapter 11's SPAN example: the run settles and ends with three reports. -/
theorem test_span_settles :
    let pl := { planOf .span none 0 with
      span := 1, qualDepth := 3, tolKind := .rel, tol := 655, onSettle := .stop, quota := 16 }
    let pr := { probeIn .running pl with
      acc := { value := 999, saturated := false }, windowOpen := true, windowsDone := 5
      qual := { history := [1012, 1004, 1001], settled := false, histogram := none } }
    let t := ran (.probeMeasurement 0) (live pr rises low)
    (t.probe 0).state = .done ∧ (t.probe 0).lastOutcome = some .settled ∧ (t.probe 0).qual.history = [1004, 1001, 1000] ∧
      (t.probe 0).generated = 3 ∧ t.rpq.entries.map (fun r => r.kind) = [0x65, 0x60, 0x61, 0x63] := by decide

/-- R57, R61, R133: the events of a completion, in order; a continuing one that swaps raises RUN_START last. -/
theorem test_completion_events :
    (finishWindow 0 countPlan .becameTrue true (withP0 (probeIn .done countPlan))).raised.map (fun e => (e.kind, e.depth)) =
      [(.window, 0), (.settled, 0), (.runEnd, 0)] ∧
    (finishWindow 0 countPlan .becameFalse false { withP0 (probeIn .running countPlan) with
      staging := some { owner := 0, stage := .pending countPlan [] } }).raised.map (fun e => (e.kind, e.depth)) =
      [(.window, 0), (.drift, 0), (.runStart, 0)] := by decide

/-! ### Couplings and reports (chapters 7 and 8) -/

/-- R137: a chain at depth 4 acts no further; the coupling its event would fire is cut and counted. -/
theorem test_depth_limit :
    let s := withSlot0 ring State.reset
    (takeEvent { source := 0, kind := .runStart, depth := 3 } s).actions = [{ slot := 0, target := 1, action := .start, depth := 4 }] ∧
    (takeEvent { source := 0, kind := .runStart, depth := 4 } s).actions = [] ∧
    (takeEvent { source := 0, kind := .runStart, depth := 4 } s).cpl.cascadeCut = 1 := by decide

/-- R134, R198: a START's coupling starts its target at the same tick, after the reply. -/
theorem test_start_chain :
    let s := (withSlot0 ring (withP0 (probeIn .ready countPlan))).setProbe 1 (probeIn .ready countPlan)
    let t := ran (.start 1 0) s
    (t.probe 0).state = .running ∧ (t.probe 1).state = .running ∧ t.cpl.slots[0] = some { ring with fires := 1 } := by decide

/-- R139: a COUPLE_REMOVE that comes between a run start and what its event causes removes the coupling before it acts. -/
theorem test_removal_between_event_and_action :
    let s := (withSlot0 ring (withP0 (probeIn .ready countPlan))).setProbe 1 (probeIn .ready countPlan)
    let t := ran (.coupleRemove 2 0) (ran (.start 1 0) { s with schedule := [1] })
    (t.probe 0).state = .running ∧ (t.probe 1).state = .ready ∧ t.raised = [] := by decide

/-- R65: two probes that complete at one tick, each stopping the other, both complete before either is stopped. -/
theorem test_completions_before_their_actions :
    let stops (p q : ProbeId) : Coupling := { source := p, event := .window, target := q, action := .stop, fires := 0, misses := 0 }
    let pr := { probeIn .running countPlan with nextBoundary := 600 }
    let s := withSlot0 (stops 0 1) ((live pr low low).setProbe 1 pr)
    let s1 := { s with cpl := { s.cpl with slots := s.cpl.slots.set 1 (some (stops 1 0)) }, schedule := [0, 1] }
    let t := ran (.probeMeasurement 1) (ran (.probeMeasurement 0) s1)
    ((t.probe 0).windowsDone, (t.probe 1).windowsDone) = (1, 1) ∧ (t.probe 0).lastOutcome = some .linked ∧
      (t.probe 1).lastOutcome = some .linked := by decide

/-- R51, R67, R138: a STOP taken before the lines' step of a run's first tick leaves the END report what that tick contributed: IN0
rises, by the second number of the schedule. -/
theorem test_stop_takes_the_first_tick_in :
    let s := { live (probeIn .ready countPlan) low low with
      lfe := { (live Probe.reset low low).lfe with stepped := false }, schedule := [0, 1] }
    let t := ran (.stop 2 0) (ran (.start 1 0) s)
    t.lfe.stepped = true ∧ t.rpq.entries.getLast? = some (.probe 0 3 600 0
      (.runEnd ⟨false, false, false, false⟩ 0 .stopped 0 none (some { value := 1, saturated := false }))) := by decide

/-- R149: a PROBE_RESET of another probe between two offers of one completion makes room for the later one. -/
theorem test_purge_between_offers :
    let s := live { probeIn .running countPlan with nextBoundary := 700 } low low
    let other : Report := .probe 1 0 0 0 (.snapshot ⟨false, false, false, false⟩ 1)
    let waiting : Occasion :=
      { probe := 0, result := .neither, remaining := [.window ⟨false, false, false, false⟩ 7 1], lost := false }
    let t := ran (.probeReset 1 1) { s with occasion := some waiting, rpq := { s.rpq with entries := List.replicate 60 other } }
    t.occasion = none ∧ (t.probe 0).lost = 0 ∧
      t.rpq.entries = [.probe 0 3 600 0 (.window ⟨false, false, false, false⟩ 7 1)] := by decide

/-- R172: a start bit confirmed at the tick of the limit, not before it, does not defer the gap error. -/
theorem test_gap_at_the_confirming_tick :
    let late : State := { State.reset with
      timebase := 2560
      hli := { State.reset.hli with
        frameRx := .length, silenceFrom := some 0
        byteRx := (({ ByteReceiver.reset true with phase := .confirming 2552, level := false } : ByteReceiver).sample 16 320 2560 false) } }
    late.hli.byteRx.phase = .receiving 2552 [] ∧ (ran .gapError late).hli.counters.gapError = 1 := by decide

/-- Chapter 11, quota exhaustion under HALT: the WINDOW and the END are both lost and the run ends LOSS. -/
theorem test_halt_on_loss :
    let pl := { countPlan with quota := 2, lossPolicy := .halt }
    let w : Report := .probe 0 1 0 0 (.window ⟨false, false, false, false⟩ 7 1)
    let s0 := live { probeIn .running pl with nextBoundary := 600, generated := 6, transmitted := 1, lost := 3 } low low
    let s := s0.setRpq { s0.rpq with entries := [w, w], lostBefore := s0.rpq.lostBefore.set 0 1 }
    let t := ran (.probeMeasurement 0) s
    (t.probe 0).lastOutcome = some .loss ∧ (t.probe 0).generated = 8 ∧ (t.probe 0).lost = 5 ∧ t.rpq.lostBefore[0] = 3 := by decide

/-- R158: credits saturate at 255. -/
theorem test_credit_saturates :
    (ran (.credit 1 0 10) { State.reset with rpq := { State.reset.rpq with credits := 250 } }).rpq.credits = 255 := by decide

/-! ### Witnesses: for every statement with hypotheses, values that meet them, each clause at a boundary of its range -/

/-- The part at reset, whose link accepts every frame. -/
theorem idle_accepts (kind tag : Byte) : Accepts State.reset kind tag := accepts_of_link rfl rfl kind tag

theorem withP0_accepts (pr : Probe) (kind tag : Byte) : Accepts (withP0 pr) kind tag := accepts_of_link (s := withP0 pr) rfl rfl kind tag

/-- A DEVICE_RESET's reply of 7 bytes that began at tick 0 and has just ended. -/
def resetReplyEnding : Sending := { bytes := frameBytes 0x82 1 [0], begun := 0, resetReply := true }

def resetEnding : State :=
  { State.reset with
    timebase := 1120
    hli := { State.reset.hli with resetPending := true, transmitter := some resetReplyEnding } }

theorem witness_ResetsGiveEveryBlockItsResetValues :
    resetEnding.hli.resetPending = true ∧ resetEnding.hli.transmitter = some resetReplyEnding ∧ resetReplyEnding.resetReply = true ∧
    resetReplyEnding.bytes.length * (160 * resetEnding.hli.divisor) ≤ (resetEnding.timebase - resetReplyEnding.begun).toNat ∧
    State.reset.hli.resetPending = false ∧
    (let s := { resetEnding with timebase := 1119 };
      s.hli.resetPending = true ∧ (s.timebase - resetReplyEnding.begun).toNat < resetReplyEnding.bytes.length * (160 * s.hli.divisor) ∧
        { resetReplyEnding with resetReply := false }.resetReply = false) ∧
    State.reset.schedule = [] ∧ ({ State.reset with schedule := [1] } : State).schedule = 1 :: [] := by decide +kernel

/-- Nothing waits at reset. -/
theorem reset_calm : Calm State.reset := ⟨rfl, rfl, rfl⟩

theorem witness_TimebaseAdvancesByOneTick :
    ({ State.reset with timebase := 0xFFFFFFFFFFFF } : State).timebase.toNat = 2 ^ 48 - 1 ∧ Calm State.reset := ⟨by decide, reset_calm⟩

/-- Tick 600 before its step, with line 0 as given. -/
def beforeStep (x : Line) : LineFrontEnd := { LineFrontEnd.reset with lines := LineFrontEnd.reset.lines.set 0 x, fresh := false }

theorem witness_FilterStepFollowsThreshold :
    (live Probe.reset low low).lfe.stepped = true ∧ (State.reset.lfe.stepped = false ∧ State.reset.lfe.fresh = true) ∧
    ((beforeStep low).stepped = false ∧ (beforeStep low).fresh = false ∧ ((beforeStep low).lines[0]).selection = 0) ∧
    (let x := { low with selection := 1, count := 2 };
      x.selection.val = (0 : Fin 4).val + 1 ∧ false = x.filtered ∧ true ≠ x.filtered ∧ x.count + 1 < (beforeStep x).thresholds[0]) ∧
    (let x := { low with selection := 4, count := 255 };
      x.selection.val = (3 : Fin 4).val + 1 ∧ true ≠ x.filtered ∧ x.count + 1 = (beforeStep x).thresholds[3]) ∧
    (low.count = 0 ∧ (low.steps 1 ([] ++ [true])).filtered ≠ (low.steps 1 []).filtered ∧ 0 < 1 ∧ 1 ≤ 1) := by decide

theorem witness_LineRequestsSelectAndSetFilters :
    (∀ kind tag, Accepts State.reset kind tag) ∧
    15 < (16 : Byte).toNat ∧ ((15 : Byte).toNat ≤ 15 ∧ 4 < (5 : Byte).toNat) ∧
    ((15 : Byte).toNat = (15 : LineId).val ∧ (4 : Byte).toNat = (4 : Fin 5).val ∧ (0 : LineId) ≠ 15) ∧
    ((0 : Byte).toNat < 1 ∧ 4 < (5 : Byte).toNat) ∧
    (1 ≤ (1 : Byte).toNat ∧ (4 : Byte).toNat ≤ 4 ∧ (0 : BitVec 16).toNat < 1 ∧ 4095 < (4096 : BitVec 16).toNat) ∧
    ((4 : Byte).toNat = (3 : Fin 4).val + 1 ∧ 1 ≤ (1 : BitVec 16).toNat ∧ (4095 : BitVec 16).toNat ≤ 4095) :=
  ⟨idle_accepts, by decide⟩

theorem witness_ReadingRequestsAnswerAndChangeNothing :
    (∀ pr kind tag, Accepts (withP0 pr) kind tag) ∧ (15 : Byte).toNat = (15 : ProbeId).val ∧ (0 : Byte).toNat = (0 : ProbeId).val ∧
    (((withP0 (probeIn .running countPlan)).probe 0).plan = some countPlan ∧
      ((withP0 (probeIn .running countPlan)).probe 0).state = .running ∧ countPlan.kind = .count) ∧
    ((withP0 (probeIn .ready countPlan)).probe 0).state ≠ .running ∧ ((withP0 (probeIn .ready countPlan)).probe 0).state ≠ .done ∧
    ((withP0 (probeIn .done (planOf .dropout none 1))).probe 0).plan = some (planOf .dropout none 1) ∧ State.reset.actions = [] :=
  ⟨withP0_accepts, by decide⟩

/-- A probe with a histogram of one edge. -/
def binning : Probe :=
  { probeIn .done { countPlan with edgeCount := 1 } with
    qual := { history := [], settled := false, histogram := some { edges := [5], bins := [0, 0], total := 0 } } }

theorem witness_HistogramRequestsReadAndClear :
    (∀ pr kind tag, Accepts (withP0 pr) kind tag) ∧ (0 : Byte).toNat = (0 : ProbeId).val ∧
    ((withP0 (probeIn .done countPlan)).probe 0).qual.histogram = none ∧ (State.reset.probe 0).state = .free ∧
    (((withP0 binning).probe 0).qual.histogram = some { edges := [5], bins := [0, 0], total := 0 } ∧
      ((withP0 binning).probe 0).state ≠ .free ∧ 1 < (2 : Byte).toNat) :=
  ⟨withP0_accepts, by decide⟩

/-- A measurement that is due and completes no window. -/
def Quiet (pl : Plan) (pr : Probe) (a b : Line) : Prop := Measuring (live pr a b) 0 pl ∧ ¬ CompletesNow (live pr a b) 0 pl

theorem quiet_of {pl : Plan} {pr : Probe} {a b : Line} (h : pr.state = .running) (hp : pr.plan = some pl)
    (hc : (measureBefore pl (pl.viewA (live pr a b).lfe.lines) false (live pr a b).timebase ((live pr a b).probe 0)).completes = false) :
    Quiet pl pr a b :=
  ⟨live_measuring pr pl a b h hp, fun e => by rw [← completes_iff, hc] at e; cases e⟩

/-- A measurement that is due and completes a window. -/
def Completing (pl : Plan) (pr : Probe) (a b : Line) : Prop := Measuring (live pr a b) 0 pl ∧ CompletesNow (live pr a b) 0 pl

theorem completing_of {pl : Plan} {pr : Probe} {a b : Line} (h : pr.state = .running) (hp : pr.plan = some pl)
    (hc : (measureBefore pl (pl.viewA (live pr a b).lfe.lines) false (live pr a b).timebase ((live pr a b).probe 0)).completes = true) :
    Completing pl pr a b :=
  ⟨live_measuring pr pl a b h hp, completes_iff.1 hc⟩

def levelPlan : Plan := planOf .levelTime none 0
def highPlan : Plan := planOf .highTime none 0
def spanPlan : Plan := { planOf .span none 0 with span := 2 }

/-- A running probe with an open window of 7FFFFFFEh ticks. -/
def opened (pl : Plan) : Probe := { probeIn .running pl with windowOpen := true, acc := { value := 0x7FFFFFFE, saturated := false } }

theorem witness_EdgeKindsMeasureByTheirSteps :
    (Quiet levelPlan (opened levelPlan) low low ∧ Quiet levelPlan (probeIn .running levelPlan) high low ∧
      Quiet levelPlan (probeIn .running levelPlan) falls low) ∧
    (Quiet highPlan (opened highPlan) high low ∧ Quiet highPlan (probeIn .running highPlan) falls low ∧
      Quiet highPlan (probeIn .running highPlan) rises low) ∧
    (Quiet spanPlan (opened spanPlan) falls low ∧ Quiet spanPlan (opened spanPlan) rises low ∧
      Quiet spanPlan (probeIn .running spanPlan) falls low ∧ Quiet spanPlan (probeIn .running spanPlan) rises low) ∧
    ((rises.view false).rising = true ∧ (falls.view false).edge = true ∧ (falls.view false).rising = false ∧
      (high.view false).edge = false) := by
  refine ⟨⟨?_, ?_, ?_⟩, ⟨?_, ?_, ?_⟩, ⟨?_, ?_, ?_, ?_⟩, by decide⟩ <;> exact quiet_of rfl rfl rfl

/-- Claims that are not due: of a probe not RUNNING, before the lines' step, after the measurement, and where no window completes. -/
theorem witness_ClaimsNotDue :
    (State.reset.occasion = none ∧ (State.reset.probe 0).state ≠ .running ∧ State.reset.lfe.stepped = false) ∧
    (let s := (live (probeIn .running countPlan) low low).setMark 0 .made;
      s.occasion = none ∧ (s.probe 0).state = .running ∧ s.lfe.stepped = true ∧ s.mark 0 = .made) ∧
    (let s := live (opened levelPlan) low low;
      s.occasion = none ∧ (s.probe 0).plan = some levelPlan ∧ ¬ CompletesNow s 0 levelPlan) ∧
    (let s := { live (opened levelPlan) low low with
        staging := some { owner := 0, stage := .pending { countPlan with edgeCount := 1 } [5] } };
      s.occasion = none ∧ s.pendingCommit 0 ≠ none ∧ (s.probe 0).state ≠ .done ∧ (s.probe 0).plan = some levelPlan ∧
        ¬ CompletesNow s 0 levelPlan) :=
  ⟨by decide, by decide, ⟨by decide, by decide, (quiet_of rfl rfl rfl : Quiet levelPlan (opened levelPlan) low low).2⟩,
    by decide, by decide, by decide, by decide, (quiet_of rfl rfl rfl : Quiet levelPlan (opened levelPlan) low low).2⟩

def updownPlan : Plan := planOf .updown (some 1) 0
def quadPlan : Plan := planOf .quad (some 1) 0
def gatedPlan : Plan := planOf .count (some 1) 0

theorem witness_CountingKindsMeasureByTheirSteps :
    (Quiet countPlan (probeIn .running countPlan) rises low ∧ Quiet gatedPlan (probeIn .running gatedPlan) rises high ∧
      Quiet gatedPlan (probeIn .running gatedPlan) rises low ∧ Quiet countPlan (probeIn .running countPlan) falls low) ∧
    (Quiet updownPlan (probeIn .running updownPlan) rises high ∧ Quiet updownPlan (probeIn .running updownPlan) rises low ∧
      Quiet updownPlan (probeIn .running updownPlan) falls low) ∧
    (Quiet quadPlan (probeIn .running quadPlan) rises low ∧ Quiet quadPlan (probeIn .running quadPlan) high rises ∧
      Quiet quadPlan (probeIn .running quadPlan) falls high ∧ Quiet quadPlan (probeIn .running quadPlan) low falls ∧
      Quiet quadPlan (probeIn .running quadPlan) rises high ∧ Quiet quadPlan (probeIn .running quadPlan) low rises ∧
      Quiet quadPlan (probeIn .running quadPlan) falls low ∧ Quiet quadPlan (probeIn .running quadPlan) high falls ∧
      Quiet quadPlan (probeIn .running quadPlan) rises falls ∧ Quiet quadPlan (probeIn .running quadPlan) high low) := by
  refine ⟨⟨?_, ?_, ?_, ?_⟩, ⟨?_, ?_, ?_⟩, ?_, ?_, ?_, ?_, ?_, ?_, ?_, ?_, ?_, ?_⟩ <;> exact quiet_of rfl rfl rfl

def dropoutPlan : Plan := planOf .dropout none 50

theorem witness_DropoutExpiresAtMultiplesOfTheTimeout :
    (Quiet dropoutPlan { probeIn .running dropoutPlan with countdown := 2 } low low ∧
      Quiet dropoutPlan { probeIn .running dropoutPlan with countdown := 1 } rises low) ∧
    (dropoutPlan.kind = .dropout ∧ 1 ≤ dropoutPlan.window.toNat ∧ (low.view false).rising = false ∧
      ({ probeIn .running dropoutPlan with countdown := 50 } : Probe).acc = { value := 0, saturated := false } ∧
      (50 : BitVec 32) = dropoutPlan.window) := by
  refine ⟨⟨?_, ?_⟩, by decide⟩ <;> exact quiet_of rfl rfl rfl

theorem witness_AccumulatorsSaturateAtTheirLimits :
    ({ value := 0x7FFFFFFF, saturated := true } : Accumulator).saturated = true ∧
    ({ value := 0x80000001, saturated := false } : Accumulator).saturated = false := by decide

/-- A state whose transmitter is busy. -/
def busy (s : State) : State :=
  { s with hli := { s.hli with transmitter := some { bytes := [0], begun := 0, resetReply := false } } }

theorem busy_held (s : State) : (busy s).linkHeld := .inl (by simp [busy])

/-- A state with a credit, in which the free transmitter of reset could take a report that waits. -/
def credited (s : State) : State := { s with rpq := { s.rpq with credits := 1 } }

/-- Free to take a report, with a schedule under which none leaves between the offers. -/
def unraced (s : State) : State := { credited s with schedule := [0, 0, 0] }

theorem unraced_undisturbed (s : State) : (unraced s).undisturbed := .inr (by simp [unraced])

theorem witness_CompletionReportsAreOfferedInOrder :
    let s := busy (withP0 (probeIn .running countPlan))
    let o : Occasion := { probe := 0, result := .neither, remaining := [], lost := true }
    let full := { s with rpq := { s.rpq with entries := List.replicate 4 (.probe 0 3 0 0 (.snapshot ⟨false, false, false, false⟩ 1)) } }
    s.linkHeld ∧ full.linkHeld ∧ ((credited s).schedule = [] ∧ (credited (withP0 (probeIn .running countPlan))).canDequeue = true) ∧
    ((s.probe 0).plan = some countPlan ∧ s.rpq.probeTotal + 2 ≤ 60 ∧ s.rpq.waiting 0 + 2 ≤ countPlan.quota) ∧
    countPlan.quota ≤ full.rpq.waiting 0 ∧
    ({ s with schedule := [1] }.schedule = 1 :: [] ∧ { s with schedule := [0, 1] }.schedule = 0 :: [1] ∧ s.schedule = []) ∧
    ({ s with occasion := some o }.occasion = some o ∧ ({ s with occasion := some o }.probe o.probe).plan = some countPlan ∧
      ({ s with occasion := some o }.probe o.probe).state = .running) := ⟨busy_held _, .inl (by simp [busy]), by decide, by decide⟩

/-- Steps 6 and 7 with a report lost: the run continues, or ends with its END report enqueued or lost. -/
theorem witness_ClosingWithALoss :
    let halting := { countPlan with lossPolicy := .halt }
    let s := busy (withP0 { probeIn .running halting with windowsDone := 1 })
    let of (p : ProbeId) : Report := .probe p 3 0 0 (.snapshot ⟨false, false, false, false⟩ 1)
    let filled (p : ProbeId) (n : Nat) : State := { s with rpq := { s.rpq with entries := List.replicate n (of p) } }
    (s.probe 0).plan = some halting ∧ runEndDecision halting .neither true (s.probe 0).windowsDone = some .loss ∧
    runEndDecision halting .neither false (s.probe 0).windowsDone = none ∧
    ((filled 0 3).raceDequeue.rpq.probeTotal < 60 ∧ (filled 0 3).raceDequeue.rpq.waiting 0 < halting.quota) ∧
    halting.quota ≤ (filled 0 4).raceDequeue.rpq.waiting 0 ∧ 60 ≤ (filled 1 60).raceDequeue.rpq.probeTotal ∧ s.schedule = [] ∧
    (let t := { s with schedule := [3, 2] }; t.schedule = 3 :: [2] ∧ 3 % 2 = 1) ∧
    (let t := { s with schedule := [2] }; t.schedule = 2 :: [] ∧ 2 % 2 = 0) ∧
    (offerReports true 0 [.snapshot ⟨false, false, false, false⟩ 1] true { s with schedule := [1] }).remaining =
      some [.snapshot ⟨false, false, false, false⟩ 1] ∧
    (offerReports true 0 [] true s).remaining = none := by decide

theorem witness_RunEndIsDecidedByPrecedence :
    ({ countPlan with lossPolicy := .halt }.lossPolicy = .halt ∧ true = true) ∧ countPlan.lossPolicy = .count ∧
    { countPlan with onSettle := .stop }.onSettle = .stop ∧
    (countPlan.onSettle = .continue ∧ { countPlan with maxWindows := 1 }.maxWindows ≠ 0 ∧ (1 : BitVec 24) = 1) ∧
    countPlan.maxWindows = 0 := by decide

/-- Kinds at a completion, each with room for its reports and no coupling. -/
theorem witness_WindowCompletionIsOneOperation :
    (Completing levelPlan (opened levelPlan) falls low ∧ Completing highPlan (opened highPlan) falls low ∧
      Completing { spanPlan with span := 1 } (opened { spanPlan with span := 1 }) rises low ∧
      Completing countPlan { probeIn .running countPlan with nextBoundary := 600 } rises low ∧
      Completing dropoutPlan { probeIn .running dropoutPlan with countdown := 1 } low low) ∧
    (let s := busy (live { probeIn .running countPlan with nextBoundary := 600 } rises low);
      Measuring s 0 countPlan ∧ CompletesNow s 0 countPlan ∧ s.uncoupled 0 ∧ s.pendingCommit 0 = none ∧ s.raised = [] ∧ s.actions = [] ∧
        s.schedule = [] ∧ s.undisturbed ∧ s.rpq.probeTotal + 3 ≤ 60 ∧ s.rpq.waiting 0 + 3 ≤ countPlan.quota) ∧
    (let s := unraced (live { probeIn .running countPlan with nextBoundary := 600 } rises low);
      Measuring s 0 countPlan ∧ CompletesNow s 0 countPlan ∧ s.uncoupled 0 ∧ s.pendingCommit 0 = none ∧ s.raised = [] ∧ s.actions = [] ∧
        s.canDequeue = true ∧ s.undisturbed ∧ s.rpq.probeTotal + 3 ≤ 60 ∧ s.rpq.waiting 0 + 3 ≤ countPlan.quota) := by
  refine ⟨⟨?_, ?_, ?_, ?_, ?_⟩,
    ⟨⟨rfl, rfl, rfl, rfl, rfl⟩, ⟨by decide, rfl⟩, ?_, rfl, rfl, rfl, rfl, .inl (busy_held _), by decide, by decide⟩,
    ⟨rfl, rfl, rfl, rfl, rfl⟩, ⟨by decide, rfl⟩, ?_, rfl, rfl, rfl, by decide, unraced_undisturbed _, by decide, by decide⟩
  iterate 5 exact completing_of rfl rfl rfl
  all_goals
    intro i c h
    simp [busy, unraced, credited, live, withP0, State.setProbe, State.reset, State.afterReset, CouplingTable.reset] at h

/-- A stage of probe 0 in each phase. -/
def staged (st : Stage) (pr : Probe) : State := { withP0 pr with staging := some { owner := 0, stage := st } }

/-- Steps 8 and 9 without a pending commit, for each kind, and with one, for a run that continues and one that has ended. -/
theorem witness_StepsEightAndNine :
    State.reset.pendingCommit 0 = none ∧
    (levelPlan.kind = .levelTime ∧ (levelPlan.viewA (live (opened levelPlan) falls low).lfe.lines).edge = true) ∧
    (highPlan.kind = .highTime ∧ (highPlan.viewA (live (opened highPlan) falls low).lfe.lines).rising = false) ∧
    (spanPlan.kind = .span ∧ (spanPlan.viewA (live (opened spanPlan) rises low).lfe.lines).rising = true ∧
      ((live (probeIn .running spanPlan) rises low).probe 0).windowOpen = false) ∧
    countPlan.kind = .count ∧ dropoutPlan.kind = .dropout ∧
    (let pending (st : ProbeState) := staged (.pending { countPlan with edgeCount := 1 } [5]) (probeIn st countPlan);
      (pending .running).pendingCommit 0 = some ({ countPlan with edgeCount := 1 }, [5]) ∧
      ((pending .running).probe 0).state = .running ∧
      (pending .done).pendingCommit 0 = some ({ countPlan with edgeCount := 1 }, [5]) ∧ ((pending .done).probe 0).state ≠ .running) := by
  decide

theorem witness_SettlementTestIsExact :
    1 ≤ 1 ∧ ([1000, 1002, 999] : List Sample32) ≠ [] ∧ countPlan.tolKind = .abs ∧ { countPlan with tolKind := .rel }.tolKind = .rel ∧
    (∀ z ∈ ([1000, 1002, 999] : List Sample32), z.toInt ≤ (1002 : Sample32).toInt) := by
  simp [countPlan]

theorem witness_SettledFlagFollowsTheTest :
    let pl := { countPlan with qualDepth := 2, minWindows := 2 }
    let full := appendHistory pl.qualDepth [7] 7
    countPlan.qualDepth = 0 ∧ pl.qualDepth ≠ 0 ∧ (full.length = pl.qualDepth ∧ pl.minWindows.toNat ≤ (2 : BitVec 24).toNat) ∧
    ¬ (full.length = pl.qualDepth ∧ pl.minWindows.toNat ≤ (1 : BitVec 24).toNat) ∧ historyPasses pl full = true ∧
    ¬ historyPasses pl (appendHistory pl.qualDepth [7] 8) = true := by decide

theorem witness_SamplesAreBinnedBetweenEdges :
    let h : Histogram := { edges := [0xFFFFFFFF, 0, 5], bins := [0, 1, 0, 0], total := 1 }
    h.edges.Pairwise (fun x y => x.toInt < y.toInt) ∧ h.bins.length = h.edges.length + 1 ∧ h.total.toNat = (h.bins.map BitVec.toNat).sum ∧
    (∀ n ∈ (h.count 0).bins, n.toNat < 4294967295) ∧ (h.count 0).total.toNat < 4294967295 := by
  refine ⟨by simp, by decide, by decide, ?_, by decide⟩
  have : ({ edges := [0xFFFFFFFF, 0, 5], bins := [0, 1, 0, 0], total := 1 } : Histogram).count 0 =
    { edges := [0xFFFFFFFF, 0, 5], bins := [0, 1, 1, 0], total := 2 } := by decide
  rw [this]; simp

/-- Probe 0 in the first tick of its run, before or after the lines' step. -/
def starting (stepped : Bool) : State :=
  let s := (live (newRun (probeIn .ready countPlan) countPlan 600) rises low).setMark 0 .first
  { s with lfe := { s.lfe with stepped := stepped } }

theorem witness_RunStartSetsTheRunRecord :
    ((withP0 (probeIn .ready countPlan)).probe 0).plan = some countPlan ∧ (withP0 (probeIn .ready countPlan)).lfe.stepped = false ∧
    ((live (probeIn .armed levelPlan) rises low).probe 0).plan = some levelPlan ∧
    (live (probeIn .armed levelPlan) rises low).lfe.stepped = true ∧
    (∀ b, (probeIn .ready countPlan).plan = some countPlan ∧
      (starting b).probe 0 = newRun (probeIn .ready countPlan) countPlan (starting b).timebase ∧ (starting b).mark 0 = .first ∧
      (starting b).occasion = none ∧ (starting b).lfe.stepped = b) ∧
    (State.reset.probe 0).state ≠ .running ∧ (live (probeIn .running countPlan) low low).mark 0 ≠ .first := by decide

/-- A probe waiting in ARMED from DONE for tick 5. -/
def armedProbe : Probe := { probeIn .armed countPlan with armedFrom := some .done, startAt := some 5 }

theorem witness_StartBeginsARunOrRefuses :
    (∀ pr kind tag, Accepts (withP0 pr) kind tag) ∧ (0 : Byte).toNat = (0 : ProbeId).val ∧ (State.reset.probe 0).state = .free ∧
    (∀ st pl, ((withP0 (probeIn st pl)).probe 0).state = st) := ⟨withP0_accepts, by decide, by decide, fun _ _ => rfl⟩

theorem witness_StartAtArmsForTheFutureOnly :
    (∀ pr kind tag, Accepts (withP0 pr) kind tag) ∧ (0 : Byte).toNat = (0 : ProbeId).val ∧
    (let now : Nat := (withP0 armedProbe).timebase.toNat;
      let ahead (tick : Tick) := (tick.toNat + 2 ^ 48 - now) % 2 ^ 48;
      ahead 1 = 1 ∧ ahead 0x7FFFFFFFFFFF = 2 ^ 47 - 1 ∧ ahead 0x800000000000 = 2 ^ 47 ∧ ahead 0 = 0) ∧
    (∀ st pl, ((withP0 (probeIn st pl)).probe 0).state = st) := ⟨withP0_accepts, by decide, by decide, fun _ _ => rfl⟩

theorem witness_WaitsAreArmedCancelledAndReached :
    (∀ pr kind tag, Accepts (withP0 pr) kind tag) ∧ (0 : Byte).toNat = (0 : ProbeId).val ∧
    (∀ st pl, ((withP0 (probeIn st pl)).probe 0).state = st) ∧
    (((withP0 armedProbe).probe 0).state = .armed ∧ ((withP0 armedProbe).probe 0).armedFrom = some .done ∧
      ((withP0 { armedProbe with armedFrom := some .ready }).probe 0).armedFrom = some .ready) ∧
    (({ withP0 armedProbe with timebase := 5 } : State).probe 0).startAt = some ({ withP0 armedProbe with timebase := 5 } : State).timebase ∧
    (({ withP0 armedProbe with timebase := 4 } : State).probe 0).startAt ≠ some ({ withP0 armedProbe with timebase := 4 } : State).timebase :=
  ⟨withP0_accepts, by decide, fun _ _ => rfl, by decide⟩

theorem staged_accepts (st : Stage) (pr : Probe) (kind tag : Byte) : Accepts (staged st pr) kind tag :=
  accepts_of_link (s := staged st pr) rfl rfl kind tag

theorem witness_StopEndsARunWithItsReport :
    let new := { countPlan with edgeCount := 1 }
    let s := busy (withP0 (probeIn .running countPlan))
    let held := busy (staged (.pending new [5]) (probeIn .running countPlan))
    let of (p : ProbeId) : Report := .probe p 3 0 0 (.snapshot ⟨false, false, false, false⟩ 1)
    let filled (p : ProbeId) (n : Nat) : State := { s with rpq := { s.rpq with entries := List.replicate n (of p) } }
    ((s.probe 0).plan = some countPlan ∧ s.pendingCommit 0 = none ∧ s.raceDequeue.rpq.probeTotal < 60 ∧
        s.raceDequeue.rpq.waiting 0 < countPlan.quota) ∧
    ((held.probe 0).plan = some countPlan ∧ held.pendingCommit 0 = some (new, [5])) ∧
    (countPlan.quota ≤ (filled 0 4).raceDequeue.rpq.waiting 0 ∧ 60 ≤ (filled 1 60).raceDequeue.rpq.probeTotal) ∧
    (let full := { credited (filled 0 4) with schedule := [1] };
      let freed := { full with hli := State.reset.hli };
      full.raceDequeue.rpq.waiting 0 = 4 ∧ freed.canDequeue = true ∧ freed.raceDequeue.rpq.waiting 0 = 3) ∧
    (Accepts (withP0 (probeIn .running countPlan)) 0x32 1 ∧ (0 : Byte).toNat = (0 : ProbeId).val ∧
      ((withP0 (probeIn .running countPlan)).probe 0).state = .running) ∧
    (Accepts (staged (.pending new [5]) (probeIn .running countPlan)) 0x32 1 ∧
      (staged (.pending new [5]) (probeIn .running countPlan)).pendingCommit 0 ≠ none) :=
  ⟨by decide, by decide, by decide, by decide, ⟨withP0_accepts _ _ _, by decide⟩, staged_accepts _ _ _ _, by decide⟩

/-- A stage of probe 0, and a completion of probe 1 between two of its offers. -/
def standing : State :=
  { staged (.opened 5 5) (probeIn .done countPlan) with
    occasion := some { probe := 1, result := .neither, remaining := [], lost := false } }

theorem witness_ProbeResetClearsOneProbe :
    Admitted standing 0x33 1 ∧ (0 : Byte).toNat = (0 : ProbeId).val ∧ (∀ o, standing.occasion = some o → o.probe ≠ 0) ∧
    (∃ st, standing.staging = some st ∧ st.owner = 0) ∧
    (Admitted standing 0x33 1 ∧ (1 : Byte).toNat = (1 : ProbeId).val ∧ ∃ o, standing.occasion = some o ∧ o.probe = 1) ∧
    (Admitted State.reset 0x33 1 ∧ State.reset.occasion = none ∧ ∀ st, State.reset.staging = some st → st.owner ≠ 0) := by
  refine ⟨admitted_of_link (s := standing) rfl _ _, by decide, ?_, ⟨_, rfl, rfl⟩,
    ⟨admitted_of_link (s := standing) rfl _ _, by decide, _, rfl, rfl⟩, admitted_of_link rfl _ _, rfl, fun _ h => by cases h⟩
  intro o h; cases h; decide

theorem witness_SwapInstallsThePendingPlan :
    let new := { countPlan with edgeCount := 1 }
    (State.reset.occasion = none ∧ State.reset.pendingCommit 0 = none) ∧
    (let s := staged (.pending new [5]) (probeIn .done countPlan);
      s.occasion = none ∧ s.pendingCommit 0 = some (new, [5]) ∧ (s.probe 0).state = .done) ∧
    (let s := busy { live { probeIn .running countPlan with nextBoundary := 600 } rises low with
        staging := some { owner := 0, stage := .pending new [5] } };
      Measuring s 0 countPlan ∧ CompletesNow s 0 countPlan ∧ s.uncoupled 0 ∧ s.pendingCommit 0 = some (new, [5]) ∧ s.raised = [] ∧
        s.actions = [] ∧ s.undisturbed ∧ s.rpq.probeTotal + 3 ≤ 60 ∧ s.rpq.waiting 0 + 3 ≤ countPlan.quota) ∧
    (let s := unraced { live { probeIn .running countPlan with nextBoundary := 600 } rises low with
        staging := some { owner := 0, stage := .pending new [5] } };
      Measuring s 0 countPlan ∧ CompletesNow s 0 countPlan ∧ s.uncoupled 0 ∧ s.pendingCommit 0 = some (new, [5]) ∧ s.raised = [] ∧
        s.actions = [] ∧ s.canDequeue = true ∧ s.undisturbed ∧ s.rpq.probeTotal + 3 ≤ 60 ∧ s.rpq.waiting 0 + 3 ≤ countPlan.quota) ∧
    runEndDecision { countPlan with maxWindows := 1 } .neither false 1 ≠ none ∧ runEndDecision countPlan .neither false 1 = none := by
  refine ⟨⟨rfl, rfl⟩, ⟨rfl, rfl, rfl⟩,
    ⟨⟨rfl, rfl, rfl, rfl, rfl⟩, ⟨by decide, rfl⟩, ?_, rfl, rfl, rfl, .inl (busy_held _), by decide, by decide⟩,
    ⟨⟨rfl, rfl, rfl, rfl, rfl⟩, ⟨by decide, rfl⟩, ?_, rfl, rfl, rfl, by decide, unraced_undisturbed _, by decide, by decide⟩, by decide⟩
  all_goals
    intro i c h
    simp [busy, unraced, credited, live, withP0, State.setProbe, State.reset, State.afterReset, CouplingTable.reset] at h

theorem witness_StageBeginOpensOrRestarts :
    (Accepts State.reset 0x20 1 ∧ State.reset.staging = none ∧ (15 : Byte).toNat = (15 : ProbeId).val ∧ (1 : BitVec 32) ≠ 0) ∧
    (let s := staged (.opened 5 5) (probeIn .done countPlan);
      Accepts s 0x20 1 ∧ ∃ st, s.staging = some st ∧ st.owner = 0 ∧ (∀ pl es, st.stage ≠ .pending pl es) ∧ st.owner ≠ 1) ∧
    (let s := staged (.pending countPlan []) (probeIn .running countPlan);
      Accepts s 0x20 1 ∧ ∃ st, s.staging = some st ∧ st.owner = 0 ∧ ∃ pl es, st.stage = .pending pl es) := by
  refine ⟨⟨idle_accepts _ _, by decide⟩, ⟨staged_accepts _ _ _ _, _, rfl, rfl, ?_, by decide⟩,
    staged_accepts _ _ _ _, _, rfl, rfl, _, _, rfl⟩
  intro pl es h; cases h

theorem witness_OnlyTheOwnerFillsAndAborts :
    (∀ st pr kind tag, Accepts (staged st pr) kind tag) ∧ (1 : Byte).toNat = (1 : ProbeId).val ∧
    (staged (.opened 5 5) (probeIn .done countPlan)).staging.map (fun st => st.owner) ≠ some 1 ∧
    State.reset.staging.map (fun st => st.owner) ≠ some 1 ∧ (1 ≤ [(7 : Sample32)].length ∧ (List.replicate 8 (7 : Sample32)).length ≤ 8) ∧
    (staged (.opened 5 5) (probeIn .done countPlan)).staging = some { owner := 0, stage := .opened 5 5 } :=
  ⟨staged_accepts, by decide⟩

theorem witness_StageParamsReplacesThePlan :
    (∀ st pr kind tag, Accepts (staged st pr) kind tag) ∧ (0 : Byte).toNat = (0 : ProbeId).val ∧
    Stage.phase (.pending countPlan []) = .pending ∧ Stage.phase (.opened 5 5) ≠ .pending ∧
    validate { countPlan.record with kind := 7 } = .error { reason := .kindUnknown, field := 1 } ∧
    validate countPlan.record = .ok countPlan ∧ countPlan.edgeCount = 0 ∧
    validate { countPlan with edgeCount := 31 }.record = .ok { countPlan with edgeCount := 31 } := ⟨staged_accepts, by decide⟩

theorem witness_StageEdgesTakesTheExpectedChunk :
    (∀ st pr kind tag, Accepts (staged st pr) kind tag) ∧ (0 : Byte).toNat = (0 : ProbeId).val ∧
    (([] : List Sample32).length < 1 ∧ 8 < (List.replicate 9 (7 : Sample32)).length) ∧ Stage.phase (.opened 5 5) ≠ .edges ∧
    (let pl := { countPlan with edgeCount := 10 };
      let received : List Sample32 := [100, 200, 300, 400, 500, 600, 700, 800];
      (2 : Byte).toNat ≠ 1 ∧ ((1 : Byte).toNat = 1 ∧ [(850 : Sample32)].length ≠ min 8 (pl.edgeCount - 8 * 1)) ∧
      [(850 : Sample32), 900].length = min 8 (pl.edgeCount - 8 * 1) ∧ 1 + 1 = (pl.edgeCount + 7) / 8 ∧ 0 + 1 ≠ (pl.edgeCount + 7) / 8 ∧
      (received.length ≤ 8 ∧ 1 ≤ 8 ∧ (received ++ [800, 900])[8 - 1]? = some 800 ∧ (received ++ [800, 900])[8]? = some 800 ∧
        (800 : Sample32).toInt ≤ (800 : Sample32).toInt)) := ⟨staged_accepts, by decide⟩

/-- Chunk 1 of that plan as 850 and 900 has no edge out of order. -/
theorem witness_StageEdgesOrdered :
    ∀ i, 8 ≤ i → ¬ ∃ x y : Sample32, 1 ≤ i ∧ ([100, 200, 300, 400, 500, 600, 700, 800] ++ [850, 900])[i - 1]? = some x ∧
      ([100, 200, 300, 400, 500, 600, 700, 800] ++ [850, 900])[i]? = some y ∧ y.toInt ≤ x.toInt := by
  rintro i hi ⟨x, y, -, hx, hy, hxy⟩
  have : i < 10 := (List.getElem?_eq_some_iff.1 hy).1
  have : i = 8 ∨ i = 9 := by omega
  rcases this with rfl | rfl <;> · cases hx; cases hy; revert hxy; decide

theorem witness_StageCommitInstallsOrHolds :
    (∀ st pr kind tag, Accepts (staged st pr) kind tag) ∧ (0 : Byte).toNat = (0 : ProbeId).val ∧ Stage.phase (.opened 5 5) ≠ .complete ∧
    1 < (2 : Byte).toNat ∧ (1 : Byte).toNat ≤ 1 ∧
    (∀ st pl, ((staged (.complete 5 5 countPlan []) (probeIn st pl)).probe 0).state = st) ∧
    ((countPlan.kind = .count ∧ { countPlan with window := 0 }.window = 0) ∧ countPlan.window ≠ 0 ∧ levelPlan.kind = .levelTime) :=
  ⟨staged_accepts, by decide, by decide, by decide, by decide, fun _ _ => rfl, by decide⟩

theorem witness_ValidationFollowsTheTable :
    (∀ c ∈ paramChecks countPlan.record, c.fails = false) ∧ validate countPlan.record = .ok countPlan := by decide

theorem witness_LeaseExpiresAtItsDeadline :
    (let s := { staged (.opened 5 5) (probeIn .done countPlan) with timebase := 5 };
      s.staging = some { owner := 0, stage := .opened 5 5 } ∧ Stage.deadline (.opened 5 5) = some s.timebase ∧
        (s.rpq.entries.filter (fun r => r.source.isNone)).length < 4) ∧
    (4 ≤ ((List.replicate 4 (Report.boot .pin)).filter (fun r => r.source.isNone)).length) ∧
    (∀ st, State.reset.staging = some st → st.stage.deadline ≠ some State.reset.timebase) :=
  ⟨by decide, by decide, fun _ h => by cases h⟩

theorem witness_CouplingRequestsKeepTheTable :
    (∀ kind tag, Accepts (withSlot0 ring State.reset) kind tag) ∧ (∀ kind tag, Accepts State.reset kind tag) ∧
    ((withSlot0 ring State.reset).actions = [] ∧ State.reset.actions = []) ∧
    15 < (16 : Byte).toNat ∧ ((0 : Byte).toNat = (0 : ProbeId).val ∧ (15 : Byte).toNat = (15 : ProbeId).val) ∧
    (4 < (5 : Byte).toNat ∧ (4 : Byte).toNat ≤ 4 ∧ 2 < (3 : Byte).toNat) ∧ (EventKind.runEnd.code = 4 ∧ Action.snapshot.code = 2) ∧
    ((withSlot0 ring State.reset).cpl.slots[(0 : SlotId).val] = some ring ∧ (∀ j : SlotId, ¬ j < 0)) ∧
    ((∀ i : SlotId, ∀ c, State.reset.cpl.slots[i.val] = some c → False) ∧ State.reset.cpl.slots[(0 : SlotId).val] = none) ∧
    (23 < (24 : Byte).toNat ∧ (23 : Byte).toNat = (23 : SlotId).val ∧ State.reset.cpl.slots[(23 : SlotId).val] = none) := by
  refine ⟨accepts_of_link rfl rfl, idle_accepts, by decide, by decide, by decide, by decide, by decide, by decide, ⟨?_, by decide⟩, by decide⟩
  intro i c h
  simp [State.reset, State.afterReset, CouplingTable.reset] at h

/-- A full table: slot i holds a coupling of probe 0's event i/15 to probe 1 + i mod 15. -/
def fullTable : CouplingTable :=
  { slots := Vector.ofFn fun i : Fin 24 =>
      some { ring with event := if i.val < 15 then .runStart else .window, target := Fin.ofNat 16 (1 + i.val % 15) }
    cascadeCut := 0 }

theorem witness_CouplingTableFull :
    (∀ kind tag, Accepts (State.reset.setCpl fullTable) kind tag) ∧ (∀ i : SlotId, fullTable.slots[i.val] ≠ none) ∧
    (∀ i : SlotId, (fullTable.slots[i.val]).all (fun c => c.event != .runEnd) = true) :=
  ⟨accepts_of_link rfl rfl, by decide, by decide⟩

theorem witness_ActionsFireOrMissByTheTargetsState :
    (∀ st pl, ((withP0 (probeIn st pl)).probe 0).state = st ∧ ((withP0 (probeIn st pl)).probe 0).plan = some pl) ∧
    (((withP0 armedProbe).probe 0).state = .armed ∧ ((withP0 armedProbe).probe 0).armedFrom = some .done) ∧
    (State.reset.probe 0).state = .free ∧ countPlan.kind = .count ∧ dropoutPlan.kind = .dropout ∧
    (withSlot0 ring State.reset).cpl.slots[(0 : SlotId).val] = some ring := ⟨fun _ _ => ⟨rfl, rfl⟩, by decide⟩

theorem witness_EventsActThroughTheirCouplings :
    ({ source := 0, kind := .runStart, depth := 3 } : Event).depth < 4 ∧ 4 ≤ ({ source := 0, kind := .runStart, depth := 4 } : Event).depth := by
  decide

/-- An event and an action that wait, under a schedule. -/
def chaining (schedule : List Nat) : State :=
  { withSlot0 ring State.reset with
    raised := [{ source := 0, kind := .runStart, depth := 0 }]
    actions := [{ slot := 0, target := 1, action := .start, depth := 1 }]
    schedule := schedule }

theorem witness_ChainsRunUntilNothingWaits :
    (chaining []).actions[0]? = some { slot := 0, target := 1, action := .start, depth := 1 } ∧
    ((chaining []).nextEvents[0]? = some 0 ∧ (chaining []).raised[0]? = some { source := 0, kind := .runStart, depth := 0 }) ∧
    Calm State.reset ∧
    (∀ sch, (chaining sch).occasion = none ∧ (chaining sch).claims ≠ 0 ∧ (chaining sch).actions ≠ []) ∧
    ((chaining [1]).choose ((chaining [1]).claims + 1)).index < (chaining [1]).claims ∧
    ((chaining [2]).choose ((chaining [2]).claims + 1)).index = (chaining [2]).claims ∧ (chaining []).schedule = [] ∧
    ((∀ b, Request.time ≠ .probeReset b) ∧ (∀ a e b c, Request.time ≠ .coupleAdd a e b c) ∧ (∀ b, Request.time ≠ .coupleRemove b) ∧
      Request.time ≠ .coupleList) ∧
    (∃ b, Request.coupleRemove 23 = .coupleRemove b) ∧
    (∃ o, standing.occasion = some o ∧ (0 : Byte).toNat < 16 ∧ (0 : Byte).toNat ≠ o.probe.val) ∧
    (¬ ∃ o, standing.occasion = some o ∧ (1 : Byte).toNat < 16 ∧ (1 : Byte).toNat ≠ o.probe.val) :=
  ⟨rfl, by decide, reset_calm, fun _ => ⟨rfl, by simp [chaining, State.claims], by simp [chaining]⟩, by decide, by decide, rfl,
    ⟨nofun, nofun, nofun, nofun⟩, ⟨_, rfl⟩, ⟨_, rfl, by decide, by decide⟩, fun ⟨o, h, _, n⟩ => by cases h; exact n rfl⟩

theorem witness_CascadesKeepTheRestOfThePart :
    ∀ e ∈ [({ source := 1, kind := .runStart, depth := 0 } : Event)], ∀ (i : SlotId) (c : Coupling),
      State.reset.cpl.slots[i.val] = some c → ¬ (c.source = e.source ∧ c.event = e.kind) := by
  intro e _ i c h
  simp [State.reset, State.afterReset, CouplingTable.reset] at h

theorem witness_ProbeReportsAreEnqueuedOrLost :
    let of (p : ProbeId) : Report := .probe p 3 0 0 (.snapshot ⟨false, false, false, false⟩ 1)
    let s := withP0 (probeIn .running countPlan)
    let filled (p : ProbeId) (n : Nat) : State := credited { s with rpq := { s.rpq with entries := List.replicate n (of p) } }
    let free := { filled 0 4 with schedule := [0] }
    let raced := { filled 0 4 with schedule := [1, 7] }
    let shared := { filled 1 60 with schedule := [1] }
    (∀ n, ((filled 0 n).probe 0).plan = some countPlan) ∧ s.canDequeue = false ∧
    (free.canDequeue = true ∧ free.schedule = 0 :: [] ∧ countPlan.quota ≤ free.raceDequeue.rpq.waiting 0) ∧
    (raced.canDequeue = true ∧ raced.schedule = 1 :: [7] ∧ raced.raceDequeue.rpq.waiting 0 < countPlan.quota) ∧
    (60 ≤ (filled 1 60).raceDequeue.rpq.probeTotal ∧ shared.raceDequeue.rpq.probeTotal < 60) := ⟨fun _ => rfl, by decide⟩

theorem witness_ReportsLeaveOldestFirstOnCredit :
    (let s := { State.reset with rpq := { State.reset.rpq with credits := 1 } };
      s.hli.transmitter = none ∧ s.hli.replies = [] ∧ s.rpq.credits ≠ 0 ∧ s.rpq.entries = .boot .pin :: []) ∧
    State.reset.rpq.credits = 0 := by decide

theorem witness_LinkRequestsSetCreditsAndClear :
    (∀ kind tag, Accepts State.reset kind tag) ∧ 1 < (2 : Byte).toNat ∧ (255 : Byte) ≠ 0 := ⟨idle_accepts, by decide⟩

theorem witness_FrameCheckIsTheManualsCyclicCheck :
    true ≠ (0 : BitVec 16).getLsbD 15 ∧ true = (0x8000 : BitVec 16).getLsbD 15 := by decide

/-- A receiver in a state, with reset's link otherwise. -/
def receiving (rx : FrameReceiver) : State := { State.reset with hli := { State.reset.hli with frameRx := rx, silenceFrom := some 0 } }

theorem witness_FrameReceiverFollowsItsTable :
    (receiving .hunt).hli.frameRx = .hunt ∧ (0xB5 : Byte) ≠ 0xB6 ∧ (receiving .length).hli.frameRx = .length ∧
    (2 ≤ (2 : Byte).toNat ∧ (250 : Byte).toNat ≤ 250 ∧ (1 : Byte).toNat < 2 ∧ 250 < (251 : Byte).toNat) ∧
    ((receiving (.body 3 [4])).hli.frameRx = .body 3 [4] ∧ [(4 : Byte)].length + 1 < 3 ∧ 2 ≤ [(4 : Byte)].length + 1) ∧
    (receiving (.check 2 [4, 9] none)).hli.frameRx = .check 2 [4, 9] none ∧
    ((receiving (.check 2 [4, 9] (some 7))).hli.frameRx = .check 2 [4, 9] (some 7) ∧ [(4 : Byte), 9] = 4 :: 9 :: [] ∧
      ∃ low high : Byte, low.toNat + 256 * high.toNat = (crc (BitVec.ofNat 8 2 :: [4, 9])).toNat) := by
  refine ⟨by decide, by decide, by decide, by decide, by decide, by decide, by decide, by decide,
    (crc [2, 4, 9]).setWidth 8, ((crc [2, 4, 9]) >>> 8).setWidth 8, by decide +kernel⟩

theorem witness_DeliveredBytesMakeTheFrame : (List.replicate 248 (0 : Byte)).length ≤ 248 ∧ State.reset.hli.frameRx = .hunt :=
  ⟨by rw [List.length_replicate], rfl⟩

theorem witness_CharactersAreSampledAtTheMiddleOfTheirBits :
    64 ∈ [1, 4, 16, 64] ∧ (ByteReceiver.reset true).phase = .watching ∧ (ByteReceiver.reset true).level = true ∧
    (let level (i : Nat) : Bool := i == 8 * 64; level 0 = false ∧ level (8 * 64) = true) ∧ (ByteReceiver.reset true).breakCounted = false ∧
    2 ^ 48 - 1 < 2 ^ 48 := by decide

theorem witness_DecodingAnEncodedRequestGivesItBack :
    (Request.stageEdges 1 0 (List.replicate 8 7)).lengthAllowed = true ∧ (Request.stageEdges 1 0 [7]).lengthAllowed = true ∧
    (Request.stageEdges 1 0 []).lengthAllowed = false ∧ (Request.stageEdges 1 0 (List.replicate 9 7)).lengthAllowed = false := by decide

theorem witness_GoodFramesEndInOneOfFourWays :
    let m : Message := { kind := 0x84, tag := 9, reply := .time 0 }
    let held := { State.reset with hli := { State.reset.hli with cache := [{ tag := 9, kind := 0x04, reply := m }], replies := [m, m, m] } }
    resetEnding.hli.resetPending = true ∧ (held.hli.resetPending = false ∧ held.hli.replies.length < 4 ∧ (9 : Byte) ≠ 0) ∧
    (∃ e, e ∈ held.hli.cache ∧ e.tag = 9 ∧ e.kind = 0x04 ∧ ∀ e' ∈ held.hli.cache, e'.tag = 9 → e' = e) ∧
    4 ≤ (List.replicate 4 m).length ∧ Admitted State.reset 0x04 9 ∧ Accepts State.reset 0x04 9 ∧ State.reset.actions = [] :=
  ⟨by decide, by decide, ⟨_, List.mem_singleton.2 rfl, rfl, rfl, fun _ h _ => List.mem_singleton.1 h⟩, by decide,
    (idle_accepts _ _).toAdmitted, idle_accepts _ _, rfl⟩

theorem witness_DispatchChecksKindLengthAndProbe :
    (∀ kind tag, Accepts State.reset kind tag) ∧ (∀ k ∈ RequestKind.all, k.code ≠ 0x36) ∧
    (RequestKind.stop.code = 0x32 ∧ ∀ r : Request, r.kind = .stop → r.lengthAllowed = true → r.data.length ≠ [(1 : Byte), 2].length) ∧
    State.reset.actions = [] ∧ 15 < (byteField [(16 : Byte)] 0).toNat ∧ 15 < (byteField [(0 : Byte), 0, 16, 0] 2).toNat := by
  refine ⟨idle_accepts, by decide, ⟨by decide, ?_⟩, by decide⟩
  intro r h _
  cases r <;> simp [Request.kind, Request.data] at h ⊢

theorem witness_RepliesEnterTheQueueAndTheCache :
    let entry (tag : Byte) : CacheEntry := { tag := tag, kind := 4, reply := { kind := 0x84, tag := tag, reply := .time 0 } }
    let cache := [entry 1, entry 2, entry 3, entry 4]
    (cache.length ≤ 4 ∧ (cache.map (fun x => x.tag)).Nodup) ∧ cache = [entry 1] ++ entry 2 :: [entry 3, entry 4] ∧
    (∀ x ∈ cache, x.tag ≠ (entry 5).tag) ∧ cache.length = 4 ∧ cache = entry 1 :: [entry 2, entry 3, entry 4] ∧
    (([] : List CacheEntry).length < 4) := by decide

theorem witness_LinkErrorsReturnTheReceiverToHunt :
    (let s := { receiving .length with timebase := 2560 };
      s.hli.frameRx ≠ .hunt ∧ s.hli.byteRx.awaited = false ∧
        ∃ since, s.hli.silenceFrom = some since ∧ 2560 * s.hli.divisor ≤ (s.timebase - since).toNat) ∧
    (let s := { receiving .length with timebase := 2559 };
      ¬ ∃ since, s.hli.silenceFrom = some since ∧ 2560 * s.hli.divisor ≤ (s.timebase - since).toNat) ∧
    State.reset.hli.byteRx.breakCounted = false ∧ (ran .lineBreak State.reset).hli.byteRx.breakCounted = true := by
  refine ⟨⟨by decide, rfl, 0, rfl, by decide⟩, ?_, by decide, by decide⟩
  rintro s ⟨since, h, hle⟩
  have : since = 0 := (Option.some.inj h).symm
  subst this
  exact absurd hle (by decide)

theorem witness_FramesAreSentWholeAtTheLinksRate :
    let m : Message := { kind := 0x84, tag := 9, reply := .time 0 }
    let f : Sending := { bytes := frameBytes 0x84 9 [0], begun := 0, resetReply := false }
    let waiting := { State.reset with hli := { State.reset.hli with replies := [m] } }
    let sending (t : Tick) := { State.reset with timebase := t, hli := { State.reset.hli with transmitter := some f } }
    (waiting.hli.transmitter = none ∧ waiting.hli.replies = m :: []) ∧ State.reset.hli.replies = [] ∧
    ((sending 1120).hli.transmitter = some f ∧ f.resetReply = false ∧
      f.bytes.length * (160 * (sending 1120).hli.divisor) ≤ ((sending 1120).timebase - f.begun).toNat) ∧
    ((sending 1119).timebase - f.begun).toNat < f.bytes.length * (160 * (sending 1119).hli.divisor) ∧
    (resetEnding.hli.transmitter = some resetReplyEnding ∧ resetReplyEnding.resetReply = true) ∧
    (f.bytes[0]? = some 0xB6 ∧ 0 < 10 ∧ ((sending 0).timebase - f.begun).toNat / (16 * (sending 0).hli.divisor) = 10 * 0 + 0) ∧
    (f.bytes[6]?.isSome = true ∧ 9 < 10 ∧
      ((sending 1119).timebase - f.begun).toNat / (16 * (sending 1119).hli.divisor) = 10 * 6 + 9) := by decide +kernel

theorem witness_RefusedRequestsChangeNothing : (execute (.stop 0) State.reset).reply = .denied (.badState .free) := by decide

theorem witness_RepliesAndReportsHaveTheirLayouts :
    (probeIn .done countPlan).plan = some countPlan ∧ (probeIn .done countPlan).state ≠ .free ∧ 255 < 256 ∧
    (State.reset.probe 0).state = .free ∧ (List.replicate 24 ((0 : SlotId), ring)).length ≤ 24 ∧
    (probeIn .done countPlan).qual.history.length ≤ 8 ∧ (∀ k : Fin 4, State.reset.lfe.thresholds[k.val] ≤ 4095) := by decide

/-- Probe 0 RUNNING with a pending commit, one coupling, and a command waiting. -/
def inUse : State :=
  { withSlot0 ring (staged (.pending { countPlan with edgeCount := 1 } [5]) (probeIn .running countPlan)) with pending := [.gapError] }

theorem probe_inUse (p : ProbeId) : inUse.probe p = if p = 0 then probeIn .running countPlan else Probe.reset := by
  revert p; decide

/-- The premises of the seven invariants and a step that completes. -/
theorem witness_invariants :
    StoresBounded inUse ∧ (∀ p, ReportsAccounted inUse p) ∧ PendingOnlyRunning inUse ∧
    (∀ p, PlanUnlessFree (inUse.probe p) ∧ WaitFieldsArmed (inUse.probe p)) ∧ CouplingsDistinct inUse.cpl ∧ LinesBounded inUse.lfe ∧
    (∀ st, inUse.staging = some st → StagedEdgesInOrder st) ∧ (∀ p, ContextFitsPlan (inUse.probe p)) ∧
    ∃ t, step inUse = .next t := by
  refine ⟨⟨by decide, by decide, by decide, by decide, by decide, by decide⟩, by unfold ReportsAccounted; decide,
    by unfold PendingOnlyRunning; decide, ?_, ⟨?_, ?_⟩, ⟨by decide, ?_⟩, ?_, ?_, _, rfl⟩
  · intro p; rw [probe_inUse]
    by_cases h : p = 0
    · rw [if_pos h]; exact ⟨by unfold PlanUnlessFree; decide, by unfold WaitFieldsArmed; decide⟩
    · rw [if_neg h]; exact ⟨by unfold PlanUnlessFree; decide, by unfold WaitFieldsArmed; decide⟩
  · intro i c h
    have : ∀ i : SlotId, inUse.cpl.slots[i.val] = some ring ∨ inUse.cpl.slots[i.val] = none := by decide
    rcases this i with e | e <;> rw [e] at h <;> cases h
    decide
  · intro i j c d hc hd _ _ _
    have : ∀ i : SlotId, i = 0 ∨ inUse.cpl.slots[i.val] = none := by decide
    rcases this i with e | e
    · rcases this j with f | f
      · exact e.trans f.symm
      · rw [f] at hd; cases hd
    · rw [e] at hc; cases hc
  · intro i
    have : ∀ i : LineId, inUse.lfe.lines[i.val] = Line.reset := by decide
    rw [this i]; rfl
  · rintro st h; cases h
    exact ⟨rfl, by decide, by decide⟩
  · intro p; rw [probe_inUse]
    by_cases h : p = 0
    · rw [if_pos h]; exact ⟨by decide, rfl⟩
    · rw [if_neg h]; exact ⟨rfl, rfl, rfl⟩

end Sys2Proof.Tests
end

section
/-! SUPPORT. Every step of the part is a sequence of a few elementary changes, each named once. An invariant that no elementary change
breaks is then kept by every step (`Changes.keeps`). -/

namespace Sys2Proof.Machine

open Relation (ReflTransGen)

/-! ### The elementary changes -/

/-- The record of a run that has ended with an outcome: DONE, and no window open (R57, R58). -/
def Probe.ended (pr : Probe) (o : RunOutcome) : Probe := { pr with state := .done, lastOutcome := some o, windowOpen := false }

/-- The state with one more report of probe `p` generated, before it is enqueued or lost (R144). -/
def State.withGenerated (s : State) (p : ProbeId) : State :=
  s.setProbe p { s.probe p with generated := (s.probe p).generated + 1 }

/-- The buffer holds a plan of `p` that a commit may install: one committed at a boundary, or one staged completely (R35, R39). -/
def State.holdsCommit (s : State) (p : ProbeId) (pl : Plan) (es : List Sample32) : Prop :=
  s.pendingCommit p = some (pl, es) ∨ ∃ l d, s.staging = some { owner := p, stage := .complete l d pl es }

/-- What a claim at tick `now` can write into one probe record and nowhere else; none of it touches the report counters. -/
inductive RecordChange (now : Tick) (a : Probe) : Probe → Prop
  /-- The accounting of a tick (R81). -/
  | working {b : Probe} (h : SameButWorking a b) : RecordChange now a b
  /-- Steps 1 to 4 of a completion (R53). -/
  | formed (pl : Plan) (hs : a.state = .running) (hp : a.plan = some pl) : RecordChange now a (a.formWindow pl).probe
  /-- A run start (R51). -/
  | started (h : a.state ≠ .free) : RecordChange now a (a.runStarted now)
  /-- A run end (R57, R58). -/
  | ended (o : RunOutcome) (h : a.state = .running) : RecordChange now a (a.ended o)
  /-- A wait begins (R46, R47). -/
  | armed (r : RestState) (t : Option Tick) (h : a.state = r.toState) : RecordChange now a (a.armedWith r t)
  /-- A wait is given a start time (R46). -/
  | rescheduled (t : Tick) (h : a.state = .armed) : RecordChange now a { a with startAt := some t }
  /-- A wait is cancelled (R49). -/
  | waitCancelled (h : a.state = .armed) : RecordChange now a a.waitCancelled
  /-- The histogram is cleared (R125). -/
  | histCleared (h : Histogram) (hh : a.qual.histogram = some h) :
    RecordChange now a { a with qual := { a.qual with histogram := some h.clear } }

/-- A change of another block than the probes that leaves the waiting reports, the waiting replies and the reply cache as they are. -/
inductive BlockChange (s : State) : State → Prop
  | schedule (sch : List Nat) : BlockChange s (s.setSchedule sch)
  | commands (cs : List Instr) : BlockChange s { s with pending := cs }
  | raised (es : List Event) : BlockChange s (s.setRaised es)
  | actions (ws : List Waiting) : BlockChange s (s.setActions ws)
  | occasion (o : Option Occasion) : BlockChange s (s.setOccasion o)
  | mark (p : ProbeId) (m : TickMark) : BlockChange s (s.setMark p m)
  | filtered (pins : BitVec 16) (h : s.lfe.stepped = false) : BlockChange s (s.setLfe (s.lfe.step pins))
  | lineSet (line profile : Byte) : BlockChange s (lineSet line profile s).state
  | profileSet (profile : Byte) (threshold : BitVec 16) : BlockChange s (profileSet profile threshold s).state
  | stageBegin (p : ProbeId) (lease : BitVec 32) : BlockChange s (stageBegin p lease s).state
  | stageParams (p : ProbeId) (record : PlanRecord) : BlockChange s (stageParams p record s).state
  | stageEdges (p : ProbeId) (chunk : Byte) (edges : List Sample32) : BlockChange s (stageEdges p chunk edges s).state
  | commitPending (p : ProbeId) (pl : Plan) (es : List Sample32) (l : BitVec 32) (d : Tick)
      (h : s.staging = some { owner := p, stage := .complete l d pl es }) (hr : (s.probe p).state = .running) :
    BlockChange s (s.setStaging (some { owner := p, stage := .pending pl es }))
  | released : BlockChange s (s.setStaging none)
  | countAction (slot : SlotId) (fired : Bool) : BlockChange s (countAction slot fired s)
  | cut (n : Nat) : BlockChange s (s.setCpl { s.cpl with cascadeCut := satAdd s.cpl.cascadeCut n })
  | coupleAdd (source : ProbeId) (event : Byte) (target : ProbeId) (action : Byte) :
    BlockChange s (coupleAdd source event target action s).state
  | coupleRemove (slot : Byte) : BlockChange s (coupleRemove slot s).state
  | credits (n : BitVec 8) : BlockChange s (s.setRpq { s.rpq with credits := n })
  | countersCleared : BlockChange s s.clearCounters
  | resetPending : BlockChange s (s.setHli { s.hli with resetPending := true })

/-- An elementary change of a claim or of a request's execution. -/
inductive ClaimChange (s : State) : State → Prop
  | block {t : State} (h : BlockChange s t) : ClaimChange s t
  | record (p : ProbeId) {x : Probe} (h : RecordChange s.timebase (s.probe p) x) : ClaimChange s (s.setProbe p x)
  /-- The swap under a RUNNING probe, before its new run starts (R60). -/
  | swapped (p : ProbeId) (pl : Plan) (es : List Sample32) (h : s.pendingCommit p = some (pl, es)) (hr : (s.probe p).state = .running) :
    ClaimChange s ((s.setProbe p ((s.probe p).installed pl es)).setStaging none)
  /-- An installation on an idle probe (R36, R61). -/
  | installed (p : ProbeId) (pl : Plan) (es : List Sample32) (h : s.holdsCommit p pl es)
      (hi : (s.probe p).state = .free ∨ (s.probe p).state = .ready ∨ (s.probe p).state = .done) :
    ClaimChange s (installNow p pl es s)
  | dequeued (h : s.canDequeue = true) : ClaimChange s s.dequeue
  | enqueued (p : ProbeId) (body : ReportBody) (h : (s.withGenerated p).hasRoom p = true) :
    ClaimChange s ((s.withGenerated p).enqueueReport p body)
  | lost (p : ProbeId) (h : (s.withGenerated p).hasRoom p = false) : ClaimChange s ((s.withGenerated p).loseReport p)
  | systemReport (r : Report) (h : r.source = none) : ClaimChange s (s.offerSystem r)
  | probeReset (p : ProbeId) : ClaimChange s (resetProbe p s)

/-- An elementary change of a step: of a claim, of the link, of the clock, or a reset. -/
inductive Change (s : State) : State → Prop
  | claim {t : State} (h : ClaimChange s t) : Change s t
  /-- The link but for its waiting replies and its cache. -/
  | link (h : HostLink) (hr : h.replies = s.hli.replies) (hc : h.cache = s.hli.cache) : Change s (s.setHli h)
  | transmitted : Change s (transmitReply s)
  | replayed (e : CacheEntry) (h : s.hli.replies.length < 4) : Change s (replayReply e s)
  | replied (kind tag : Byte) (r : Reply) (h : s.hli.replies.length < 4) : Change s (s.enterReply kind tag r)
  | tick (lrx : Bool) : Change s (advance lrx s)
  | reset (rs1 rs0 lrx : Bool) (cause : ResetCause) : Change s (resetPart rs1 rs0 lrx cause s)

/-- The changes that claims and executions are made of, one after another. -/
abbrev Claims : State → State → Prop := ReflTransGen ClaimChange

/-- The changes that a step is made of, one after another. -/
abbrev Changes : State → State → Prop := ReflTransGen Change

/-- What no elementary change breaks, no sequence of them breaks. -/
theorem Changes.keeps {P : State → Prop} (h : ∀ s t, P s → Change s t → P t) {s t : State} (hst : Changes s t) (hs : P s) : P t := by
  induction hst with
  | refl => exact hs
  | tail _ hbc ih => exact h _ _ ih hbc

theorem Claims.changes {s t : State} (h : Claims s t) : Changes s t := ReflTransGen.mono (fun _ _ => Change.claim) s t h

theorem BlockChange.claims {s t : State} (h : BlockChange s t) : Claims s t := .single (.block h)

theorem RecordChange.claims {s : State} (p : ProbeId) {x : Probe} (h : RecordChange s.timebase (s.probe p) x) :
    Claims s (s.setProbe p x) := .single (.record p h)

/-! ### What a change of another block leaves -/

/-- What a block change leaves: the probes, the waiting reports, the waiting replies and the cache. -/
structure BlockFrame (s t : State) : Prop where
  probes : t.probes = s.probes
  entries : t.rpq.entries = s.rpq.entries
  replies : t.hli.replies = s.hli.replies
  cache : t.hli.cache = s.hli.cache

theorem BlockFrame.probe {s t : State} (h : BlockFrame s t) (p : ProbeId) : t.probe p = s.probe p := by
  simp only [State.probe, h.probes]

theorem lineSet_frame (line profile : Byte) (s : State) : BlockFrame s (lineSet line profile s).state := by
  unfold lineSet
  split
  · exact ⟨rfl, rfl, rfl, rfl⟩
  · split
    · exact ⟨rfl, rfl, rfl, rfl⟩
    · exact ⟨rfl, rfl, rfl, rfl⟩

theorem profileSet_frame (profile : Byte) (threshold : BitVec 16) (s : State) : BlockFrame s (profileSet profile threshold s).state := by
  unfold profileSet
  split
  · exact ⟨rfl, rfl, rfl, rfl⟩
  · split
    · exact ⟨rfl, rfl, rfl, rfl⟩
    · exact ⟨rfl, rfl, rfl, rfl⟩

/-- A request of a held stage is refused, or its owner's stage takes it (R24). -/
theorem asOwner_cases (p : ProbeId) (s : State) (f : Stage → Answer) :
    (asOwner p s f).state = s ∨ ∃ stage, s.staging = some { owner := p, stage := stage } ∧ asOwner p s f = f stage := by
  unfold asOwner
  split
  · exact .inl rfl
  · rename_i st hst
    split
    · rename_i ho
      exact .inr ⟨st.stage, by rw [hst, ← ho], rfl⟩
    · exact .inl rfl

theorem stageBegin_frame (p : ProbeId) (lease : BitVec 32) (s : State) : BlockFrame s (stageBegin p lease s).state := by
  unfold stageBegin; dsimp only
  split
  · exact ⟨rfl, rfl, rfl, rfl⟩
  · split
    · exact ⟨rfl, rfl, rfl, rfl⟩
    · split
      · split <;> exact ⟨rfl, rfl, rfl, rfl⟩
      · exact ⟨rfl, rfl, rfl, rfl⟩

theorem stageParams_frame (p : ProbeId) (record : PlanRecord) (s : State) : BlockFrame s (stageParams p record s).state := by
  rcases asOwner_cases p s _ with e | ⟨stage, -, e⟩
  · rw [stageParams, e]; exact ⟨rfl, rfl, rfl, rfl⟩
  · rw [stageParams, e]; dsimp only
    split
    · exact ⟨rfl, rfl, rfl, rfl⟩
    · split <;> exact ⟨rfl, rfl, rfl, rfl⟩

theorem stageEdges_frame (p : ProbeId) (chunk : Byte) (edges : List Sample32) (s : State) :
    BlockFrame s (stageEdges p chunk edges s).state := by
  rcases asOwner_cases p s _ with e | ⟨stage, -, e⟩
  · rw [stageEdges, e]; exact ⟨rfl, rfl, rfl, rfl⟩
  · rw [stageEdges, e]
    cases stage with
    | opened | complete | pending => exact ⟨rfl, rfl, rfl, rfl⟩
    | edges lease d pl received k =>
      dsimp only
      split
      · exact ⟨rfl, rfl, rfl, rfl⟩
      · split
        · exact ⟨rfl, rfl, rfl, rfl⟩
        · split <;> exact ⟨rfl, rfl, rfl, rfl⟩

theorem countAction_frame (slot : SlotId) (fired : Bool) (s : State) : BlockFrame s (countAction slot fired s) := by
  unfold countAction
  split <;> exact ⟨rfl, rfl, rfl, rfl⟩

theorem coupleAdd_frame (source : ProbeId) (event : Byte) (target : ProbeId) (action : Byte) (s : State) :
    BlockFrame s (coupleAdd source event target action s).state := by
  unfold coupleAdd
  split
  · exact ⟨rfl, rfl, rfl, rfl⟩
  · split
    · exact ⟨rfl, rfl, rfl, rfl⟩
    · split
      · exact ⟨rfl, rfl, rfl, rfl⟩
      · split
        · exact ⟨rfl, rfl, rfl, rfl⟩
        · split <;> exact ⟨rfl, rfl, rfl, rfl⟩

theorem coupleRemove_frame (slot : Byte) (s : State) : BlockFrame s (coupleRemove slot s).state := by
  unfold coupleRemove
  split
  · exact ⟨rfl, rfl, rfl, rfl⟩
  · split <;> exact ⟨rfl, rfl, rfl, rfl⟩

theorem BlockChange.frame {s t : State} (h : BlockChange s t) : BlockFrame s t := by
  cases h with
  | lineSet => exact lineSet_frame _ _ _
  | profileSet => exact profileSet_frame _ _ _
  | stageBegin => exact stageBegin_frame _ _ _
  | stageParams => exact stageParams_frame _ _ _
  | stageEdges => exact stageEdges_frame _ _ _ _
  | countAction => exact countAction_frame _ _ _
  | coupleAdd => exact coupleAdd_frame _ _ _ _ _
  | coupleRemove => exact coupleRemove_frame _ _
  | schedule | commands | raised | actions | occasion | mark | filtered | commitPending | released | cut | credits | countersCleared
  | resetPending => exact ⟨rfl, rfl, rfl, rfl⟩

end Sys2Proof.Machine
end

section
/-! SUPPORT. Which changes each operation of the model is made of: the offers, the runs, the completions, the chains, the requests and
at last the step. -/

namespace Sys2Proof.Machine

open Relation (ReflTransGen)

/-! ### The schedule, the queue and the lines -/

theorem choose_claims (s : State) (n : Nat) : Claims s (s.choose n).state := by
  obtain ⟨sch, e⟩ := s.choose_state n
  rw [e]; exact (BlockChange.schedule sch).claims

theorem raceDequeue_claims (s : State) : Claims s s.raceDequeue := by
  rcases s.raceDequeue_cases with ⟨sch, e⟩ | ⟨hc, sch, e⟩ <;> rw [e]
  · exact (BlockChange.schedule sch).claims
  · exact (BlockChange.schedule sch).claims.tail (.dequeued hc)

theorem generate_claims (s : State) (p : ProbeId) (body : ReportBody) : Claims s (s.generate p body).state := by
  rcases s.generate_cases p body with ⟨h, e⟩ | ⟨h, e⟩ <;> rw [e]
  · exact (raceDequeue_claims s).tail (.enqueued p body h)
  · exact (raceDequeue_claims s).tail (.lost p h)

theorem madeStep_claims (s : State) : Claims s (madeStep s) := by
  rcases madeStep_cases s with ⟨-, e⟩ | ⟨h, pins, sch, e⟩ <;> rw [e]
  exact (BlockChange.schedule sch).claims.tail (.block (.filtered pins h))

theorem filterStep_claims (pins : BitVec 16) (s : State) : Claims s (filterStep pins s) := by
  rcases filterStep_cases pins s with ⟨-, e⟩ | ⟨h, e⟩ <;> rw [e]
  exact (BlockChange.filtered pins h).claims

/-! ### Run start, swap and run end -/

theorem takeIn_claims (p : ProbeId) (s : State) : Claims s (takeIn p s) := by
  unfold takeIn
  split
  · exact ((madeStep_claims s).tail (.record p (.working (Probe.firstMeasurement_same _ _ _)))).tail (.block (.mark p .made))
  · exact .refl

theorem startRun_claims {p : ProbeId} {s : State} (h : (s.probe p).state ≠ .free) (depth : Nat) :
    Claims s (startRun p depth s).state := by
  have hs : Claims s (s.setProbe p ((s.probe p).runStarted s.timebase)) := RecordChange.claims p (.started h)
  unfold startRun; dsimp only
  split
  · have hw : SameButWorking ((s.setProbe p ((s.probe p).runStarted s.timebase)).probe p)
        (((s.probe p).runStarted s.timebase).firstMeasurement s.lfe.lines s.timebase) := by
      rw [State.probe_setProbe_self]; exact Probe.firstMeasurement_same _ _ _
    have hm := RecordChange.claims p (.working hw)
    rw [State.setProbe_setProbe] at hm
    exact (hs.trans hm).tail (.block (.mark p .made))
  · exact hs.tail (.block (.mark p .first))

/-- A probe that is not waiting may take a swap (R60, R61). -/
theorem swapPending_claims {p : ProbeId} {s : State} (h : (s.probe p).state ≠ .armed) : Claims s (swapPending p s).state := by
  rcases swapPending_cases p s with ⟨-, e⟩ | ⟨pl, es, hc, ⟨hr, e⟩ | ⟨hr, e⟩⟩ <;> rw [e]
  · exact .refl
  · refine (ReflTransGen.single (.swapped p pl es hc hr)).trans (startRun_claims ?_ 0)
    have hk : (((s.setProbe p ((s.probe p).installed pl es)).setStaging none).probe p).state = (s.probe p).state := by
      rw [State.setStaging_probe, State.probe_setProbe_self]; rfl
    rw [hk, hr]; decide
  · refine .single (.installed p pl es (.inl hc) ?_)
    revert h hr
    cases (s.probe p).state <;> simp

@[simp] theorem Probe.ended_state (pr : Probe) (o : RunOutcome) : (pr.ended o).state = .done := rfl

theorem endRun_eq (p : ProbeId) (pl : Plan) (o : RunOutcome) (byStop : Bool) (s : State) :
    endRun p pl o byStop s =
      ((s.setProbe p ((s.probe p).ended o)).generate p (endReport pl ((s.probe p).ended o) o byStop)).state := rfl

theorem endRun_claims {p : ProbeId} {s : State} (h : (s.probe p).state = .running) (pl : Plan) (o : RunOutcome) (byStop : Bool) :
    Claims s (endRun p pl o byStop s) :=
  (RecordChange.claims p (.ended o h)).trans (generate_claims _ _ _)

theorem SameButCounters.state {a b : Probe} (h : SameButCounters a b) : b.state = a.state := by rw [← h]

theorem SameButCounters.plan {a b : Probe} (h : SameButCounters a b) : b.plan = a.plan := by rw [← h]

theorem SameButCounters.waits {a b : Probe} (h : SameButCounters a b) : b.armedFrom = a.armedFrom ∧ b.startAt = a.startAt := by
  constructor <;> rw [← h]

theorem endRun_state (p : ProbeId) (pl : Plan) (o : RunOutcome) (byStop : Bool) (s : State) :
    ((endRun p pl o byStop s).probe p).state = .done := by
  rw [endRun_eq, (State.generate_probe _ _ _ p).state, State.probe_setProbe_self]; rfl

theorem stopRun_claims {p : ProbeId} {s : State} (h : (s.probe p).state = .running) (o : RunOutcome) (depth : Nat) :
    Claims s (stopRun p o depth s).state := by
  unfold stopRun; dsimp only
  split
  · refine (RecordChange.claims p (.ended o h)).trans (swapPending_claims ?_)
    rw [State.probe_setProbe_self, Probe.ended_state]; decide
  · refine (endRun_claims h _ o true).trans (swapPending_claims ?_)
    rw [endRun_state]; decide

/-! ### The window completion (R53) -/

theorem standing_claims (s : State) (pauses : Bool) : Claims s (s.standing pauses).state := choose_claims _ _

@[simp] theorem standing_probe (s : State) (pauses : Bool) (q : ProbeId) : (s.standing pauses).state.probe q = s.probe q := by
  obtain ⟨sch, e⟩ := s.choose_state (1 + pauses.toNat)
  rw [State.standing, e]; rfl

theorem offerReports_claims (pauses : Bool) (p : ProbeId) (bodies : List ReportBody) (lost : Bool) (s : State) :
    Claims s (offerReports pauses p bodies lost s).state := by
  induction bodies generalizing lost s with
  | nil => exact .refl
  | cons b bs ih =>
    unfold offerReports; dsimp only
    split
    · exact standing_claims _ _
    · exact (standing_claims _ _).trans ((generate_claims _ _ _).trans (ih _ _))

/-- Offers change the report counters of a record alone. -/
theorem offerReports_probe (pauses : Bool) (p : ProbeId) (bodies : List ReportBody) (lost : Bool) (s : State) (q : ProbeId) :
    SameButCounters (s.probe q) ((offerReports pauses p bodies lost s).state.probe q) := by
  induction bodies generalizing lost s with
  | nil => exact .refl _
  | cons b bs ih =>
    unfold offerReports; dsimp only
    split
    · rw [standing_probe]; exact .refl _
    · have hg := State.generate_probe (s.standing pauses).state p b q
      rw [standing_probe] at hg
      exact hg.trans (ih _ _)

theorem finishWindow_claims {p : ProbeId} {s : State} (h : (s.probe p).state ≠ .armed) (pl : Plan) (result : QualResult)
    (ended : Bool) : Claims s (finishWindow p pl result ended s) := by
  have hr := (swapPending_claims h).tail
    (.block (.raised ((swapPending p s).state.raised ++ (completionEvents p result ended ++ (swapPending p s).events))))
  unfold finishWindow; dsimp only
  split
  · exact hr.tail (.record p (.working (measureAfter_same _ _ _ _ _)))
  · exact hr

theorem closeWindow_claims {p : ProbeId} {s : State} (h : (s.probe p).state = .running) (pauses : Bool) (pl : Plan)
    (result : QualResult) (lost : Bool) : Claims s (closeWindow pauses p pl result lost s) := by
  rcases closeWindow_cases pauses p pl result lost s with ⟨-, e⟩ | ⟨o, -, ⟨-, e⟩ | ⟨-, e⟩⟩ <;> rw [e]
  · exact finishWindow_claims (by rw [h]; decide) _ _ _
  · exact (standing_claims _ _).tail (.block (.occasion _))
  · refine (standing_claims _ _).trans ((endRun_claims ?_ pl o false).trans (finishWindow_claims ?_ _ _ _))
    · rw [standing_probe]; exact h
    · rw [endRun_state]; decide

theorem offerAndClose_claims {p : ProbeId} {s : State} (h : (s.probe p).state = .running) (pauses : Bool) (pl : Plan)
    (result : QualResult) (bodies : List ReportBody) (lost : Bool) : Claims s (offerAndClose pauses p pl result bodies lost s) := by
  have ho := offerReports_claims pauses p bodies lost s
  unfold offerAndClose; dsimp only
  split
  · exact ho.tail (.block (.occasion _))
  · refine ho.trans (closeWindow_claims ?_ _ _ _ _)
    rw [(offerReports_probe _ _ _ _ _ p).state, h]

theorem completeWindow_claims {p : ProbeId} {s : State} {pl : Plan} (h : (s.probe p).state = .running)
    (hp : (s.probe p).plan = some pl) : Claims s (completeWindow p pl s) := by
  refine (RecordChange.claims p (.formed pl h hp)).trans (offerAndClose_claims ?_ _ _ _ _ _)
  rw [State.probe_setProbe_self]; exact h

theorem continueOccasion_claims (pauses : Bool) (s : State) : Claims s (continueOccasion pauses s) := by
  have h0 : Claims s (s.setOccasion none) := (BlockChange.occasion none).claims
  unfold continueOccasion
  split
  · exact .refl
  · dsimp only
    split
    · exact h0
    · split
      · rename_i hr
        exact h0.trans (offerAndClose_claims (s := s.setOccasion none) hr _ _ _ _ _)
      · exact h0

/-! ### The claims on a probe (R65) -/

theorem measureTick_claims {p : ProbeId} {s : State} (h : (s.probe p).state = .running) : Claims s (measureTick p s) := by
  unfold measureTick
  split
  · exact .refl
  · rename_i pl hp
    have hw : SameButWorking (s.probe p) (s.accounted p pl).probe := measureBefore_same _ _ _ _ _
    have h1 := (RecordChange.claims p (.working hw)).tail (.block (.mark p .made))
    dsimp only
    split
    · refine h1.trans (completeWindow_claims ?_ ?_)
      · rw [State.setMark_probe, State.probe_setProbe_self, hw.state, h]
      · rw [State.setMark_probe, State.probe_setProbe_self, hw.plan, hp]
    · exact h1.tail (.record p (.working (measureAfter_same _ _ _ _ _)))

theorem State.measurementDue_running {s : State} {p : ProbeId} (h : s.measurementDue p = true) : (s.probe p).state = .running := by
  simp only [State.measurementDue, Bool.and_eq_true, beq_iff_eq] at h
  exact h.1.1

theorem State.completionDue_measurementDue {s : State} {p : ProbeId} (h : s.completionDue p = true) : s.measurementDue p = true := by
  simp only [State.completionDue, Bool.and_eq_true] at h
  exact h.1

theorem measurementClaim_claims (p : ProbeId) (s : State) : Claims s (measurementClaim p s) := by
  unfold measurementClaim
  split
  · rename_i h; exact measureTick_claims (State.measurementDue_running h)
  · exact .refl

theorem completionClaim_claims (p : ProbeId) (s : State) : Claims s (completionClaim p s) := by
  unfold completionClaim
  split
  · rename_i h; exact measureTick_claims (State.measurementDue_running (State.completionDue_measurementDue h))
  · exact .refl

theorem swapClaim_claims (p : ProbeId) (s : State) : Claims s (swapClaim p s) := by
  unfold swapClaim
  split
  · exact .refl
  · split
    · rename_i h
      exact (swapPending_claims (by rw [h]; decide)).tail (.block (.raised _))
    · exact completionClaim_claims p s

theorem deadlineClaim_claims (p : ProbeId) (s : State) : Claims s (deadlineClaim p s) := by
  unfold deadlineClaim
  split
  · rename_i h
    simp only [State.deadlineReached, Bool.and_eq_true, beq_iff_eq] at h
    exact (startRun_claims (by rw [h.1]; decide) 0).tail (.block (.raised _))
  · exact .refl

theorem expireLease_claims (s : State) : Claims s (expireLease s) := by
  unfold expireLease
  split
  · exact .refl
  · split
    · exact BlockChange.released.claims.tail (.systemReport _ rfl)
    · exact .refl

/-! ### The chains (R134, R138) -/

theorem takeIn_state (p : ProbeId) (s : State) (q : ProbeId) : ((takeIn p s).probe q).state = (s.probe q).state :=
  (takeIn_probe p s q).state

theorem takeAction_claims (p : ProbeId) (a : Action) (depth : Nat) (s : State) :
    Claims s (takeAction p a depth s).effect.state := by
  rcases takeAction_cases p a depth s with e | ⟨-, h, e⟩ | ⟨-, h, e⟩ | ⟨-, h, e⟩ | ⟨-, -, pl, -, -, e⟩ <;> rw [e]
  · exact .refl
  · refine startRun_claims (fun hf => ?_) depth
    rw [hf] at h; simp at h
  · exact (takeIn_claims p s).trans (stopRun_claims (by rw [takeIn_state, h]) _ _)
  · exact RecordChange.claims p (.waitCancelled h)
  · exact (takeIn_claims p s).trans (generate_claims _ _ _)

theorem chainKept_claims (s : State) : ChainKept (Claims s) where
  schedule _ sch h := h.tail (.block (.schedule sch))
  raised _ es h := h.tail (.block (.raised es))
  actions _ ws h := h.tail (.block (.actions ws))
  action _ p a depth h := h.trans (takeAction_claims p a depth _)
  count _ i fired h := h.tail (.block (.countAction i fired))
  cut _ n h := h.tail (.block (.cut n))

theorem State.resume_claims (s : State) : Claims s s.resume := by
  unfold State.resume; dsimp only
  split
  · exact continueOccasion_claims _ _
  · exact (chainKept_claims s).runChain _ _ (continueOccasion_claims _ _)

theorem State.finish_claims (s : State) : Claims s s.finish :=
  (chainKept_claims s).runChain _ _ (continueOccasion_claims _ _)

/-! ### The execution of a request (R179) -/

theorem withProbe_claims {s : State} {f : ProbeId → Answer} (h : ∀ p, Claims s (f p).state) (b : Byte) :
    Claims s (withProbe b s f).state := by
  unfold withProbe
  split
  · exact .refl
  · exact h _

theorem status_claims (clear : Byte) (s : State) : Claims s (status clear s).state := by
  unfold status
  split
  · exact .refl
  · split
    · exact BlockChange.countersCleared.claims
    · exact .refl

theorem credit_claims (mode n : Byte) (s : State) : Claims s (credit mode n s).state := by
  unfold credit
  split
  · split
    · exact .refl
    · exact (BlockChange.credits _).claims
  · split
    · exact (BlockChange.credits _).claims
    · exact .refl

theorem stageCommit_claims (p : ProbeId) (mode : Byte) (s : State) : Claims s (stageCommit p mode s).state := by
  rcases asOwner_cases p s _ with e | ⟨stage, hst, e⟩
  · rw [stageCommit, e]
  · rw [stageCommit, e]
    cases stage with
    | opened | edges | pending => exact .refl
    | complete l d pl es =>
      have hh : s.holdsCommit p pl es := .inr ⟨l, d, hst⟩
      dsimp only [commitComplete]
      split
      · exact .refl
      · split
        · rename_i h; exact .single (.installed p pl es hh (.inl h))
        · rename_i h; exact .single (.installed p pl es hh (.inr (.inl h)))
        · rename_i h; exact .single (.installed p pl es hh (.inr (.inr h)))
        · exact .refl
        · rename_i h
          split
          · exact .refl
          · split
            · exact .refl
            · exact (BlockChange.commitPending p pl es l d hst h).claims

theorem stageAbort_claims (p : ProbeId) (s : State) : Claims s (stageAbort p s).state := by
  rcases asOwner_cases p s _ with e | ⟨stage, -, e⟩ <;> rw [stageAbort, e]
  exact BlockChange.released.claims

theorem start_claims (p : ProbeId) (s : State) : Claims s (start p s).state := by
  unfold start
  split
  · rename_i h; exact startRun_claims (by rw [h]; decide) 0
  · rename_i h; exact startRun_claims (by rw [h]; decide) 0
  · rename_i h; exact startRun_claims (by rw [h]; decide) 0
  · exact .refl
  · exact .refl

theorem startAt_claims (p : ProbeId) (t : Tick) (s : State) : Claims s (startAt p t s).state := by
  unfold startAt; dsimp only
  split
  · exact .refl
  · exact .refl
  · rename_i h
    split
    · exact RecordChange.claims p (.armed .ready (some t) h)
    · exact startRun_claims (by rw [h]; decide) 0
  · rename_i h
    split
    · exact RecordChange.claims p (.armed .done (some t) h)
    · exact startRun_claims (by rw [h]; decide) 0
  · rename_i h
    split
    · exact RecordChange.claims p (.rescheduled t h)
    · exact startRun_claims (by rw [h]; decide) 0

theorem arm_claims (p : ProbeId) (s : State) : Claims s (arm p s).state := by
  unfold arm; dsimp only
  split
  · rename_i h; exact RecordChange.claims p (.armed .ready none h)
  · rename_i h; exact RecordChange.claims p (.armed .done none h)
  all_goals exact .refl

theorem stop_claims (p : ProbeId) (s : State) : Claims s (stop p s).state := by
  unfold stop; dsimp only
  split
  · rename_i h; exact RecordChange.claims p (.waitCancelled h)
  · rename_i h; exact (takeIn_claims p s).trans (stopRun_claims (by rw [takeIn_state, h]) .stopped 0)
  all_goals exact .refl

theorem snapshot_claims (p : ProbeId) (s : State) : Claims s (snapshot p s).state := by
  unfold snapshot; dsimp only
  split
  · exact takeIn_claims p s
  · exact .refl

theorem histRead_claims (p : ProbeId) (half : Byte) (s : State) : Claims s (histRead p half s).state := by
  unfold histRead; dsimp only
  split
  · exact .refl
  · split
    · exact .refl
    · split <;> exact .refl

theorem histClear_claims (p : ProbeId) (s : State) : Claims s (histClear p s).state := by
  unfold histClear; dsimp only
  split
  · exact .refl
  · rename_i h hh
    split
    · exact .refl
    · exact RecordChange.claims p (.histCleared h hh)

theorem execute_claims (r : Request) (s : State) : Claims s (execute r s).state := by
  cases r with
  | status clear => exact status_claims clear s
  | deviceReset => exact BlockChange.resetPending.claims
  | credit mode n => exact credit_claims mode n s
  | time | lineRead | coupleList => exact .refl
  | lineSet line profile => exact (BlockChange.lineSet line profile).claims
  | profileSet profile threshold => exact (BlockChange.profileSet profile threshold).claims
  | stageBegin b lease => exact withProbe_claims (fun p => (BlockChange.stageBegin p lease).claims) b
  | stageParams b record => exact withProbe_claims (fun p => (BlockChange.stageParams p record).claims) b
  | stageEdges b chunk edges => exact withProbe_claims (fun p => (BlockChange.stageEdges p chunk edges).claims) b
  | stageCommit b mode => exact withProbe_claims (fun p => stageCommit_claims p mode s) b
  | stageAbort b => exact withProbe_claims (fun p => stageAbort_claims p s) b
  | start b => exact withProbe_claims (fun p => start_claims p s) b
  | startAt b t => exact withProbe_claims (fun p => startAt_claims p t s) b
  | arm b => exact withProbe_claims (fun p => arm_claims p s) b
  | stop b => exact withProbe_claims (fun p => stop_claims p s) b
  | probeReset b => exact withProbe_claims (fun p => .single (.probeReset p)) b
  | probeRead b => exact withProbe_claims (fun p => takeIn_claims p s) b
  | snapshot b => exact withProbe_claims (fun p => snapshot_claims p s) b
  | histRead b half => exact withProbe_claims (fun p => histRead_claims p half s) b
  | histClear b => exact withProbe_claims (fun p => histClear_claims p s) b
  | coupleAdd a event b action =>
    exact withProbe_claims (fun source => withProbe_claims (fun target => (BlockChange.coupleAdd source event target action).claims) b) a
  | coupleRemove slot => exact (BlockChange.coupleRemove slot).claims

theorem dispatch_claims (r : Except DispatchFault Request) (s : State) : Claims s (dispatch r s).state := by
  unfold dispatch
  split
  · exact .refl
  · exact .refl
  · exact execute_claims _ s

theorem readyFor_claims (r : Except DispatchFault Request) (s : State) : Claims s (readyFor r s) := by
  have h1 : Claims s (if betweenOffers r s then s else continueOccasion false s) := by
    split
    · exact .refl
    · exact continueOccasion_claims _ _
  unfold readyFor; dsimp only
  split
  · exact (chainKept_claims s).takeActions _ h1
  · exact h1

/-! ### The link (R171, R175) -/

/-- The waiting replies and the cache are the link's own: no claim and no execution touches them. -/
theorem ClaimChange.replies {s t : State} (h : ClaimChange s t) : t.hli.replies = s.hli.replies ∧ t.hli.cache = s.hli.cache := by
  cases h with
  | block h => exact ⟨h.frame.replies, h.frame.cache⟩
  | dequeued => exact ⟨s.dequeue_keeps.hli.replies, s.dequeue_keeps.hli.cache⟩
  | systemReport r => exact ⟨(s.offerSystem_keeps r).hli.replies, (s.offerSystem_keeps r).hli.cache⟩
  | probeReset p => unfold resetProbe State.releaseOf; split <;> exact ⟨rfl, rfl⟩
  | record | swapped | installed | enqueued | lost => exact ⟨rfl, rfl⟩

theorem Claims.replies {s t : State} (h : Claims s t) : t.hli.replies = s.hli.replies := by
  induction h with
  | refl => rfl
  | tail _ hbc ih => exact hbc.replies.1.trans ih

theorem goodFrame_changes (kind tag : Byte) (r : Except DispatchFault Request) (s : State) : Changes s (goodFrame kind tag r s) := by
  have hc : Changes s s.counted := .single (.link _ rfl rfl)
  rcases goodFrame_cases kind tag r s with ⟨-, e⟩ | ⟨-, -, e⟩ | ⟨-, hl, c, -, -, -, e⟩ | ⟨ha, e⟩ <;> rw [e]
  · exact hc
  · exact hc.tail (.link _ rfl rfl)
  · exact hc.tail (.replayed c hl)
  · have hd : Claims s.counted (dispatch r (readyFor r s.counted)).state.raceDequeue :=
      ((readyFor_claims r _).trans (dispatch_claims r _)).trans (raceDequeue_claims _)
    have hl : (dispatch r (readyFor r s.counted)).state.raceDequeue.hli.replies.length < 4 := by
      rw [hd.replies]; exact ha.room
    exact ((hc.trans hd.changes).tail (.replied kind tag _ hl)).tail (.claim (.block (.raised _)))

theorem toHunt_changes (s : State) (f : LinkCounters → LinkCounters) : Changes s (s.toHunt.countLink f) :=
  .single (.link _ rfl rfl)

theorem takeByte_changes (b : Byte) (s : State) : Changes s (takeByte b s) := by
  have hs (rx : FrameReceiver) : Changes s (s.toState rx) := .single (.link _ rfl rfl)
  unfold takeByte
  split
  · split
    · exact hs _
    · exact .refl
  · split
    · exact hs _
    · exact toHunt_changes s _
  · split <;> exact hs _
  · exact hs _
  · unfold frameComplete
    split
    · exact (ReflTransGen.single (.link _ rfl rfl) : Changes s s.toHunt).trans (goodFrame_changes _ _ _ _)
    · exact toHunt_changes s _

theorem gapError_changes (s : State) : Changes s (gapError s) := by
  unfold gapError
  split
  · exact toHunt_changes s _
  · exact .refl

theorem characterReceived_changes (b : Byte) (s : State) : Changes s (characterReceived b s) := by
  refine .trans ?_ (takeByte_changes b _)
  exact .single (.link _ rfl rfl)

theorem characterDiscarded_changes (s : State) : Changes s (characterDiscarded s) := by
  refine .trans ?_ (gapError_changes _)
  exact .single (.link _ rfl rfl)

theorem lineBreak_changes (s : State) : Changes s (lineBreak s) := by
  unfold lineBreak
  split
  · exact .refl
  · exact .single (.link _ rfl rfl)

theorem endFrame_changes (s : State) : Changes s (endFrame s) := by
  unfold endFrame
  split
  · exact .refl
  · split
    · exact .single (.link _ rfl rfl)
    · exact .refl

/-! ### The step -/

/-- A command's own changes, and those of what goes on behind it. -/
theorem done_changes {s u t : State} (h : Changes s u) (e : u.done = .next t) : Changes s t := by
  cases e; exact h.trans u.resume_claims.changes

theorem probeClaim_changes {claim : State → State} (h : ∀ s, Claims s (claim s)) {s t : State} (e : s.probeClaim claim = .next t) :
    Changes s t :=
  done_changes (Claims.changes ((continueOccasion_claims false s).trans (h _))) e

theorem hostRequest_changes {tag : Byte} {r : Request} {s t : State} (e : (hostRequest tag r s).done = .next t) : Changes s t :=
  done_changes (goodFrame_changes _ _ _ s) e

theorem exec_changes {c : Instr} {s t : State} (e : exec c s = .next t) : Changes s t := by
  cases c with
  | pinReset rs1 rs0 lrx => cases e; exact .single (.reset rs1 rs0 lrx .pin)
  | lineFilterStep pins => exact done_changes (filterStep_claims pins s).changes e
  | probeMeasurement p => exact probeClaim_changes (measurementClaim_claims p) e
  | windowCompletion p => exact probeClaim_changes (completionClaim_claims p) e
  | swap p => exact probeClaim_changes (swapClaim_claims p) e
  | armedDeadline p => exact probeClaim_changes (deadlineClaim_claims p) e
  | leaseExpiry => exact done_changes (expireLease_claims s).changes e
  | characterReceived b => exact done_changes (characterReceived_changes b s) e
  | gapError => exact done_changes (gapError_changes s) e
  | lineBreak => exact done_changes (lineBreak_changes s) e
  | frameAccept kind tag data => exact done_changes (goodFrame_changes _ _ _ s) e
  | replyTransmit => exact done_changes (.single .transmitted) e
  | reportDequeue =>
    refine done_changes ?_ e
    split
    · rename_i h; exact .single (.claim (.dequeued h))
    · exact .refl
  | frameEnd => exact done_changes (endFrame_changes s) e
  | deviceResetEffect rs1 rs0 lrx =>
    change execDeviceResetEffect rs1 rs0 lrx s = .next t at e
    unfold execDeviceResetEffect at e
    split at e
    · cases e; exact .single (.reset rs1 rs0 lrx .request)
    · exact done_changes .refl e
  | timebaseAdvance lrx => cases e; exact s.finish_claims.changes.tail (.tick lrx)
  | characterDiscarded => exact done_changes (characterDiscarded_changes s) e
  | status | deviceReset | credit | time | lineSet | lineRead | profileSet | stageBegin | stageParams | stageEdges | stageCommit
  | stageAbort | start | startAt | arm | stop | probeReset | probeRead | snapshot | histRead | histClear | coupleAdd | coupleRemove
  | coupleList => exact hostRequest_changes e

/-- Every step is a sequence of elementary changes. -/
theorem step_changes {s t : State} (e : step s = .next t) : Changes s t := by
  unfold step at e
  split at e
  · cases e; exact .refl
  · rename_i c rest _
    exact .head (.claim (.block (.commands rest))) (exec_changes e)

end Sys2Proof.Machine
end

section
/-! SUPPORT. What the changes that reach the report queue or a whole record do to each probe's record and to its waiting reports. -/

namespace Sys2Proof.Machine

/-! ### The records and the waiting reports after each change -/

theorem withGenerated_probe (s : State) (p q : ProbeId) :
    (s.withGenerated p).probe q = if q = p then { s.probe p with generated := (s.probe p).generated + 1 } else s.probe q :=
  State.probe_setProbe _ _ _ _

@[simp] theorem withGenerated_rpq (s : State) (p : ProbeId) : (s.withGenerated p).rpq = s.rpq := rfl

@[simp] theorem enqueueReport_probe (s : State) (p q : ProbeId) (body : ReportBody) : (s.enqueueReport p body).probe q = s.probe q := rfl

/-- An enqueued report is one more of its probe's that waits (R147). -/
theorem enqueueReport_waiting (s : State) (p q : ProbeId) (body : ReportBody) :
    (s.enqueueReport p body).rpq.waiting q = s.rpq.waiting q + if q = p then 1 else 0 := by
  simp only [ReportQueue.waiting, State.enqueueReport, State.setRpq_rpq, List.countP_append, List.countP_singleton, Report.isOf,
    Report.source, beq_iff_eq, Option.some.injEq, eq_comm (a := p)]

theorem loseReport_probe (s : State) (p q : ProbeId) :
    (s.loseReport p).probe q = if q = p then { s.probe p with lost := (s.probe p).lost + 1 } else s.probe q := by
  unfold State.loseReport; dsimp only
  rw [State.probe_setProbe]; rfl

@[simp] theorem loseReport_waiting (s : State) (p q : ProbeId) : (s.loseReport p).rpq.waiting q = s.rpq.waiting q := rfl

/-- The record of a probe after a dequeue, by the source of the oldest report (R160). -/
theorem dequeue_probe_of {s : State} {r : Report} {rest : List Report} (h : s.rpq.entries = r :: rest) (q : ProbeId) :
    s.dequeue.probe q = if r.source = some q then { s.probe q with transmitted := (s.probe q).transmitted + 1 } else s.probe q := by
  unfold State.dequeue; rw [h]; dsimp only
  split
  · rename_i hr; rw [if_neg (by rw [hr]; simp)]; rfl
  · rename_i p hr
    rw [State.probe_setProbe, hr]
    by_cases hq : q = p
    · subst hq; simp
    · rw [if_neg hq, if_neg (by simpa using Ne.symm hq)]; rfl

theorem dequeue_entries_of {s : State} {r : Report} {rest : List Report} (h : s.rpq.entries = r :: rest) :
    s.dequeue.rpq.entries = rest := by
  unfold State.dequeue; rw [h]; dsimp only
  split <;> rfl

theorem dequeue_of_empty {s : State} (h : s.rpq.entries = []) : s.dequeue = s := by
  unfold State.dequeue; rw [h]

@[simp] theorem offerSystem_probe (s : State) (r : Report) (p : ProbeId) : (s.offerSystem r).probe p = s.probe p := by
  unfold State.offerSystem; split <;> rfl

/-- A system report is none of a probe's (R142, R152). -/
theorem offerSystem_waiting (s : State) {r : Report} (h : r.source = none) (p : ProbeId) :
    (s.offerSystem r).rpq.waiting p = s.rpq.waiting p := by
  unfold State.offerSystem; split
  · simp [ReportQueue.waiting, Report.isOf, h]
  · rfl

@[simp] theorem releaseOf_probe (s : State) (p q : ProbeId) : (s.releaseOf p).probe q = s.probe q := by
  unfold State.releaseOf; split <;> rfl

@[simp] theorem releaseOf_rpq (s : State) (p : ProbeId) : (s.releaseOf p).rpq = s.rpq := by
  unfold State.releaseOf; split <;> rfl

theorem resetProbe_probe (s : State) (p q : ProbeId) : (resetProbe p s).probe q = if q = p then .reset else s.probe q := by
  unfold resetProbe
  rw [releaseOf_probe, ← State.probe_setProbe]; rfl

/-- A purge leaves none of the probe's reports and all of the others' (R155). -/
theorem resetProbe_waiting (s : State) (p q : ProbeId) : (resetProbe p s).rpq.waiting q = if q = p then 0 else s.rpq.waiting q := by
  unfold resetProbe
  rw [releaseOf_rpq]
  simp only [ReportQueue.waiting, State.purge, State.setRpq_rpq, State.setProbe_rpq, List.countP_filter]
  split
  · rename_i h; simp [h]
  · rename_i h
    refine congrArg (List.countP · _) (funext fun r => ?_)
    cases hr : Report.isOf q r with
    | false => rfl
    | true =>
      simp only [Report.isOf, beq_iff_eq] at hr
      simp [Report.isOf, hr, h]

@[simp] theorem resetPart_probe (rs1 rs0 lrx : Bool) (cause : ResetCause) (s : State) (p : ProbeId) :
    (resetPart rs1 rs0 lrx cause s).probe p = .reset := by
  rw [resetPart, sampleLink_probe]
  simp [State.afterReset, State.probe]

@[simp] theorem resetPart_waiting (rs1 rs0 lrx : Bool) (cause : ResetCause) (s : State) (p : ProbeId) :
    (resetPart rs1 rs0 lrx cause s).rpq.waiting p = 0 := rfl

@[simp] theorem transmitReply_probe (s : State) (p : ProbeId) : (transmitReply s).probe p = s.probe p := by
  unfold transmitReply; split <;> rfl

@[simp] theorem transmitReply_rpq (s : State) : (transmitReply s).rpq = s.rpq := by
  unfold transmitReply; split <;> rfl

theorem BlockFrame.waiting {s t : State} (h : BlockFrame s t) (p : ProbeId) : t.rpq.waiting p = s.rpq.waiting p := by
  simp only [ReportQueue.waiting, h.entries]

/-! ### O54: every report is in one place (R8) -/

/-- Of a record's change no report counter is part. -/
theorem RecordChange.counters {now : Tick} {a b : Probe} (h : RecordChange now a b) :
    b.generated = a.generated ∧ b.transmitted = a.transmitted ∧ b.lost = a.lost := by
  cases h with
  | working h => exact h.counters
  | formed | started | ended | armed | rescheduled | waitCancelled | histCleared => exact ⟨rfl, rfl, rfl⟩

/-- The sum of R8 speaks of a probe's three counters and its waiting reports alone. -/
theorem ReportsAccounted.congr {s t : State} {p : ProbeId} (h : ReportsAccounted s p)
    (hc : (t.probe p).generated = (s.probe p).generated ∧ (t.probe p).transmitted = (s.probe p).transmitted ∧
      (t.probe p).lost = (s.probe p).lost)
    (hw : t.rpq.waiting p = s.rpq.waiting p) : ReportsAccounted t p := by
  obtain ⟨hg, ht, hl⟩ := hc
  unfold ReportsAccounted at *
  rw [hg, ht, hl, hw]; exact h

theorem ReportsAccounted.of_same {s t : State} {p : ProbeId} (h : ReportsAccounted s p) (hp : t.probe p = s.probe p)
    (hw : t.rpq.waiting p = s.rpq.waiting p) : ReportsAccounted t p :=
  h.congr (by rw [hp]; exact ⟨rfl, rfl, rfl⟩) hw

/-- A write of one record that keeps its counters keeps the sum of every probe. -/
theorem ReportsAccounted.setProbe {s : State} {q : ProbeId} (h : ReportsAccounted s q) (p : ProbeId) {x : Probe}
    (hx : x.generated = (s.probe p).generated ∧ x.transmitted = (s.probe p).transmitted ∧ x.lost = (s.probe p).lost) :
    ReportsAccounted (s.setProbe p x) q := by
  refine h.congr ?_ rfl
  rw [State.probe_setProbe]
  split
  · rename_i e; rw [e]; exact hx
  · exact ⟨rfl, rfl, rfl⟩

/-- A report that leaves the queue is transmitted (R160). -/
theorem ReportsAccounted.dequeue {s : State} {p : ProbeId} (h : ReportsAccounted s p) : ReportsAccounted s.dequeue p := by
  cases he : s.rpq.entries with
  | nil => rw [dequeue_of_empty he]; exact h
  | cons r rest =>
    unfold ReportsAccounted at *
    rw [dequeue_probe_of he, ReportQueue.waiting, dequeue_entries_of he]
    rw [ReportQueue.waiting, he, List.countP_cons] at h
    by_cases hr : r.source = some p
    · simp only [Report.isOf, hr, beq_self_eq_true, if_true] at h ⊢
      rw [h, BitVec.ofNat_add]; ac_rfl
    · simpa [Report.isOf, hr] using h

/-- A report that enters the queue was generated (R147). -/
theorem ReportsAccounted.enqueued {s : State} {q : ProbeId} (h : ReportsAccounted s q) (p : ProbeId) (body : ReportBody) :
    ReportsAccounted ((s.withGenerated p).enqueueReport p body) q := by
  unfold ReportsAccounted at *
  rw [enqueueReport_probe, withGenerated_probe, enqueueReport_waiting, withGenerated_rpq]
  by_cases hq : q = p
  · subst hq
    simp only [if_true]
    rw [h, BitVec.ofNat_add]; ac_rfl
  · simpa [hq] using h

/-- A report that is lost was generated (R148). -/
theorem ReportsAccounted.lost {s : State} {q : ProbeId} (h : ReportsAccounted s q) (p : ProbeId) :
    ReportsAccounted ((s.withGenerated p).loseReport p) q := by
  unfold ReportsAccounted at *
  rw [loseReport_probe, loseReport_waiting, withGenerated_probe, withGenerated_probe, withGenerated_rpq]
  by_cases hq : q = p
  · subst hq
    simp only [if_true]
    rw [h]; ac_rfl
  · simpa [hq] using h

/-- A cleared record has generated, transmitted and lost nothing. -/
theorem reportsAccounted_of_reset {s : State} {p : ProbeId} (hp : s.probe p = .reset) (hw : s.rpq.waiting p = 0) :
    ReportsAccounted s p := by
  unfold ReportsAccounted
  rw [hp, hw]; rfl

theorem ClaimChange.keeps_accounted {s t : State} (h : ClaimChange s t) {q : ProbeId} (hs : ReportsAccounted s q) :
    ReportsAccounted t q := by
  cases h with
  | block h => exact hs.of_same (h.frame.probe q) (h.frame.waiting q)
  | record p h => exact hs.setProbe p h.counters
  | swapped p pl es => exact hs.setProbe p ⟨rfl, rfl, rfl⟩
  | installed p pl es => exact hs.setProbe p ⟨rfl, rfl, rfl⟩
  | dequeued => exact hs.dequeue
  | enqueued p body => exact hs.enqueued p body
  | lost p => exact hs.lost p
  | systemReport r h => exact hs.of_same (offerSystem_probe s r q) (offerSystem_waiting s h q)
  | probeReset p =>
    by_cases hq : q = p
    · exact reportsAccounted_of_reset (by rw [resetProbe_probe, if_pos hq]) (by rw [resetProbe_waiting, if_pos hq])
    · exact hs.of_same (by rw [resetProbe_probe, if_neg hq]) (by rw [resetProbe_waiting, if_neg hq])

theorem Change.keeps_accounted {s t : State} (h : Change s t) {q : ProbeId} (hs : ReportsAccounted s q) : ReportsAccounted t q := by
  cases h with
  | claim h => exact h.keeps_accounted hs
  | transmitted => exact hs.of_same (transmitReply_probe s q) (by rw [transmitReply_rpq])
  | reset rs1 rs0 lrx cause =>
    exact reportsAccounted_of_reset (resetPart_probe rs1 rs0 lrx cause s q) (resetPart_waiting rs1 rs0 lrx cause s q)
  | link | replayed | replied | tick => exact hs

/-- Settles O54: the sum of R8 survives every elementary change, and a step is a sequence of them. -/
theorem reportsStayAccountedFor : Obligations.ReportsStayAccountedFor := by
  intro s t hs e
  exact (step_changes e).keeps (P := fun u => ∀ p, ReportsAccounted u p) (fun _ _ hu h p => h.keeps_accounted (hu p)) hs

end Sys2Proof.Machine
end

section
/-! SUPPORT. O56: each elementary change keeps a record in step with its probe's state (R3, R6, R44). -/

namespace Sys2Proof.Machine

/-- A record fits its state: a plan unless FREE, and the fields of a wait in ARMED alone (R3, R6). -/
def RecordFits (pr : Probe) : Prop := PlanUnlessFree pr ∧ WaitFieldsArmed pr

/-- Whether a record fits is a matter of its state, its plan and the fields of a wait. -/
theorem RecordFits.congr {a b : Probe} (h : RecordFits a) (hs : b.state = a.state) (hp : b.plan = a.plan)
    (hw : b.armedFrom = a.armedFrom ∧ b.startAt = a.startAt) : RecordFits b := by
  obtain ⟨hf, ht⟩ := hw
  unfold RecordFits PlanUnlessFree WaitFieldsArmed at *
  rw [hs, hp, hf, ht]; exact h

theorem RecordFits.plan_ne_none {a : Probe} (h : RecordFits a) (hs : a.state ≠ .free) : a.plan ≠ none :=
  fun hp => hs (h.1.1 hp)

theorem RecordFits.no_wait {a : Probe} (h : RecordFits a) (hs : a.state ≠ .armed) : a.armedFrom = none ∧ a.startAt = none :=
  h.2.1 hs

/-- A record with a plan that does not wait fits every state but FREE and ARMED. -/
theorem recordFits_of_idle {b : Probe} (hf : b.state ≠ .free) (ha : b.state ≠ .armed) (hp : b.plan ≠ none)
    (hw : b.armedFrom = none ∧ b.startAt = none) : RecordFits b :=
  ⟨⟨fun e => absurd e hp, fun e => absurd e hf⟩, fun _ => hw, fun e => absurd e ha⟩

/-- A record with a plan and the state it was armed from fits ARMED. -/
theorem recordFits_of_armed {b : Probe} (ha : b.state = .armed) (hp : b.plan ≠ none) (hw : b.armedFrom.isSome) : RecordFits b :=
  ⟨⟨fun e => absurd e hp, fun e => by rw [ha] at e; cases e⟩, fun e => absurd ha e, fun _ => hw⟩

theorem recordFits_reset : RecordFits .reset := by
  unfold RecordFits PlanUnlessFree WaitFieldsArmed; decide

@[simp] theorem Probe.runStarted_state (pr : Probe) (now : Tick) : (pr.runStarted now).state = .running := rfl

@[simp] theorem Probe.installed_state (pr : Probe) (pl : Plan) (es : List Sample32) : (pr.installed pl es).state = pr.state := rfl

/-- A cancelled wait returns to READY or DONE (R49). -/
theorem Probe.armedFromState_cases (pr : Probe) : pr.armedFromState = .ready ∨ pr.armedFromState = .done := by
  unfold Probe.armedFromState
  cases pr.armedFrom with
  | none => exact .inl rfl
  | some r => cases r with
    | ready => exact .inl rfl
    | done => exact .inr rfl

theorem RecordChange.keeps_fits {now : Tick} {a b : Probe} (h : RecordChange now a b) (ha : RecordFits a) : RecordFits b := by
  cases h with
  | working h => exact ha.congr h.state h.plan h.waits
  | formed pl => exact ha.congr rfl rfl ⟨rfl, rfl⟩
  | started h => exact recordFits_of_idle (by simp) (by simp) (ha.plan_ne_none h) ⟨rfl, rfl⟩
  | ended o h =>
    exact recordFits_of_idle (by simp) (by simp) (ha.plan_ne_none (by rw [h]; decide)) (ha.no_wait (by rw [h]; decide))
  | armed r t h =>
    refine recordFits_of_armed rfl (ha.plan_ne_none ?_) rfl
    rw [h]; cases r <;> decide
  | rescheduled t h => exact recordFits_of_armed h (ha.plan_ne_none (by rw [h]; decide)) (ha.2.2 h)
  | waitCancelled h =>
    have hp := ha.plan_ne_none (by rw [h]; decide)
    have hs : a.waitCancelled.state = a.armedFromState := rfl
    rcases a.armedFromState_cases with e | e
    · exact recordFits_of_idle (by rw [hs, e]; decide) (by rw [hs, e]; decide) hp ⟨rfl, rfl⟩
    · exact recordFits_of_idle (by rw [hs, e]; decide) (by rw [hs, e]; decide) hp ⟨rfl, rfl⟩
  | histCleared => exact ha.congr rfl rfl ⟨rfl, rfl⟩

/-- Writing a record that fits leaves every record fitting. -/
theorem RecordFits.setProbe {s : State} {q : ProbeId} (h : RecordFits (s.probe q)) {p : ProbeId} {x : Probe} (hx : RecordFits x) :
    RecordFits ((s.setProbe p x).probe q) := by
  rw [State.probe_setProbe]
  split
  · exact hx
  · exact h

theorem ClaimChange.keeps_fits {s t : State} (h : ClaimChange s t) (hs : ∀ p, RecordFits (s.probe p)) (q : ProbeId) :
    RecordFits (t.probe q) := by
  cases h with
  | block h => rw [h.frame.probe]; exact hs q
  | record p h => exact (hs q).setProbe (h.keeps_fits (hs p))
  | swapped p pl es _ hr =>
    refine (hs q).setProbe (x := (s.probe p).installed pl es) (recordFits_of_idle ?_ ?_ (Option.some_ne_none pl) ?_)
    · rw [Probe.installed_state, hr]; decide
    · rw [Probe.installed_state, hr]; decide
    · exact (hs p).no_wait (by rw [hr]; decide)
  | installed p pl es _ hi =>
    refine (hs q).setProbe (recordFits_of_idle ?_ ?_ (Option.some_ne_none pl) ((hs p).no_wait ?_))
    · simp
    · simp
    · rcases hi with e | e | e <;> rw [e] <;> decide
  | dequeued =>
    have h := (s.dequeue_probe q).counters
    exact (hs q).congr h.state h.plan h.waits
  | enqueued p body =>
    rw [enqueueReport_probe]
    exact (hs q).setProbe ((hs p).congr rfl rfl ⟨rfl, rfl⟩)
  | lost p =>
    have hg (r : ProbeId) : RecordFits ((s.withGenerated p).probe r) := (hs r).setProbe ((hs p).congr rfl rfl ⟨rfl, rfl⟩)
    exact (hg q).setProbe ((hg p).congr rfl rfl ⟨rfl, rfl⟩)
  | systemReport r => rw [offerSystem_probe]; exact hs q
  | probeReset p =>
    rw [resetProbe_probe]
    split
    · exact recordFits_reset
    · exact hs q

theorem Change.keeps_fits {s t : State} (h : Change s t) (hs : ∀ p, RecordFits (s.probe p)) (q : ProbeId) : RecordFits (t.probe q) := by
  cases h with
  | claim h => exact h.keeps_fits hs q
  | transmitted => rw [transmitReply_probe]; exact hs q
  | reset => rw [resetPart_probe]; exact recordFits_reset
  | link | replayed | replied | tick => exact hs q

/-- Settles O56: every record fits its state after every elementary change, and a step is a sequence of them. -/
theorem probeRecordsMatchTheirState : Obligations.ProbeRecordsMatchTheirState := by
  intro s t hs e
  exact (step_changes e).keeps (P := fun u => ∀ p, RecordFits (u.probe p)) (fun _ _ hu h => h.keeps_fits hu) hs

end Sys2Proof.Machine
end

section
/-! SUPPORT. O60 and O2: what a reset leaves, and the invariants there. -/

namespace Sys2Proof.Machine

/-! ### The part after a reset, block by block -/

theorem HostLink.breakLength_pos (h : HostLink) : 0 < h.breakLength := by
  unfold HostLink.breakLength HostLink.divisor
  split <;> decide

theorem ticksSince_self (now : Tick) : ticksSince now now = 0 := by
  rw [ticksSince, BitVec.sub_self]; rfl

/-- A low that begins at the first sample after a reset is no break yet (R173, R190). -/
theorem reset_sample_breakDue (bitTime : Nat) {breakLength : Nat} (h : 0 < breakLength) (now : Tick) (lrx lrx0 : Bool) :
    ((ByteReceiver.reset lrx).sample bitTime breakLength now lrx0).breakDue = false := by
  have hn : ¬ breakLength = 0 := Nat.ne_of_gt h
  cases lrx <;> cases lrx0 <;> simp [ByteReceiver.sample, ByteReceiver.reset, ticksSince_self, hn]

section
variable (rs1 rs0 lrx : Bool) (cause : ResetCause) (sch : List Nat) (cs : List Instr)

@[simp] theorem afterReset_probe (p : ProbeId) : (State.afterReset rs1 rs0 lrx cause sch cs).probe p = .reset := by
  simp [State.afterReset, State.probe]

@[simp] theorem afterReset_mark (p : ProbeId) : (State.afterReset rs1 rs0 lrx cause sch cs).mark p = .due := by
  simp [State.afterReset, State.mark]

@[simp] theorem afterReset_slot (i : SlotId) : (State.afterReset rs1 rs0 lrx cause sch cs).cpl.slots[i.val] = none := by
  simp [State.afterReset, CouplingTable.reset]

@[simp] theorem afterReset_line (i : LineId) : (State.afterReset rs1 rs0 lrx cause sch cs).lfe.lines[i.val] = .reset := by
  simp [State.afterReset, LineFrontEnd.reset]

@[simp] theorem afterReset_lostBefore (p : ProbeId) : (State.afterReset rs1 rs0 lrx cause sch cs).rpq.lostBefore[p.val] = 0 := by
  simp [State.afterReset, ReportQueue.reset]

/-- Every block has its reset values at tick 0, whatever LRX is sampled there (R2, R163, R168, R190). -/
theorem sampleLink_afterReset_values (lrx0 : Bool) :
    ResetValues (sampleLink lrx0 (State.afterReset rs1 rs0 lrx cause sch cs)) rs1 rs0 lrx lrx0 cause where
  timebase := rfl
  tickZero := ⟨rfl, rfl, fun p => by simp⟩
  nothingWaits := ⟨rfl, rfl, rfl⟩
  probeIdle p := by rw [sampleLink_probe, afterReset_probe]; exact ⟨rfl, rfl, rfl⟩
  runRecord p := by rw [sampleLink_probe, afterReset_probe]; exact ⟨rfl, rfl, rfl, rfl, rfl, rfl⟩
  working p := by rw [sampleLink_probe, afterReset_probe]; exact ⟨rfl, rfl, rfl, rfl, rfl, rfl⟩
  counters p := by rw [sampleLink_probe, afterReset_probe]; exact ⟨rfl, rfl, rfl⟩
  context p := by rw [sampleLink_probe, afterReset_probe]; rfl
  lines i := by rw [sampleLink_lfe, afterReset_line]; exact ⟨rfl, rfl⟩
  thresholds := rfl
  buffer := rfl
  table := ⟨fun i => by rw [sampleLink_cpl, afterReset_slot], rfl⟩
  queue := ⟨rfl, fun p => by rw [sampleLink_rpq, afterReset_lostBefore], rfl, rfl⟩
  straps := ⟨rfl, rfl⟩
  receiver := by
    have hb : (sampleLink lrx0 (State.afterReset rs1 rs0 lrx cause sch cs)).hli.byteRx.breakDue = false :=
      reset_sample_breakDue _ (HostLink.breakLength_pos _) _ _ _
    cases lrx <;> cases lrx0 <;> exact ⟨rfl, rfl, rfl, rfl, rfl, rfl, rfl, hb, rfl, rfl⟩
  replies := ⟨rfl, rfl⟩
  linkCounters := ⟨rfl, rfl, rfl, rfl, rfl, rfl, rfl⟩
  sending := ⟨rfl, rfl, rfl⟩

end

/-! ### O60: the invariants hold right after a reset -/

theorem couplingsDistinct_of_empty {t : CouplingTable} (h : ∀ i : SlotId, t.slots[i.val] = none) : CouplingsDistinct t where
  noSelf i c hc := by rw [h i] at hc; cases hc
  noTwin i j c d hc _ := by rw [h i] at hc; cases hc

theorem linesBounded_reset : LinesBounded State.reset.lfe where
  thresholds := by decide
  counts i := by
    rw [State.reset, afterReset_line, LineFrontEnd.threshold_zero _ rfl]; rfl

theorem storesBounded_reset : StoresBounded State.reset where
  probeShare := by decide
  systemShare := by decide
  replies := by decide
  cache := by decide
  tagsNonzero _ h := by cases h
  tagsNodup := .nil

/-- Settles O60, invariant by invariant, from the blocks after a reset. -/
theorem resetMeetsEveryInvariant : Obligations.ResetMeetsEveryInvariant := by
  have hp (p : ProbeId) : State.reset.probe p = .reset := afterReset_probe _ _ _ _ _ _ p
  refine ⟨⟨rfl, rfl, rfl⟩, storesBounded_reset, fun p => reportsAccounted_of_reset (hp p) rfl, fun p h => ?_, fun p => ?_,
    couplingsDistinct_of_empty (afterReset_slot _ _ _ _ _ _), linesBounded_reset, fun st h => ?_, fun p => ?_⟩
  · cases h
  · rw [hp]; exact recordFits_reset
  · cases h
  · rw [hp]; exact ⟨rfl, rfl, rfl⟩

/-! ### O2: the two reset commands (R189, R190) -/

/-- A frame has ended when its line time has passed (R184). -/
theorem frameOver_iff (h : HostLink) (now : Tick) (f : Sending) :
    h.frameOver now f = true ↔ f.bytes.length * (160 * h.divisor) ≤ (now - f.begun).toNat := decide_eq_true_iff

theorem resetReplySent_iff (s : State) : s.resetReplySent = true ↔
    s.hli.resetPending = true ∧ ∃ f, s.hli.transmitter = some f ∧ f.resetReply = true ∧
      f.bytes.length * (160 * s.hli.divisor) ≤ (s.timebase - f.begun).toNat := by
  simp only [State.resetReplySent, Bool.and_eq_true, Option.any_eq_true, frameOver_iff]

/-- A reset command leaves the reset values, the commands that wait, and the rest of the schedule (log 11, log 24). -/
theorem resetPart_values (rs1 rs0 lrx : Bool) (cause : ResetCause) (s : State) :
    ResetValues (resetPart rs1 rs0 lrx cause s) rs1 rs0 lrx (lrx != ((s.choose 2).index == 1)) cause ∧
      (resetPart rs1 rs0 lrx cause s).pending = s.pending ∧
      (resetPart rs1 rs0 lrx cause s).schedule = (s.choose 2).state.schedule :=
  ⟨sampleLink_afterReset_values _ _ _ _ _ _ _, rfl, rfl⟩

theorem execDeviceResetEffect_of_sent {s : State} (h : s.resetReplySent = true) (rs1 rs0 lrx : Bool) :
    exec (.deviceResetEffect rs1 rs0 lrx) s = .next (resetPart rs1 rs0 lrx .request s) := if_pos h

theorem execDeviceResetEffect_of_not_sent {s : State} (h : ¬ s.resetReplySent = true) (rs1 rs0 lrx : Bool) :
    exec (.deviceResetEffect rs1 rs0 lrx) s = .next s.resume := if_neg h

theorem choose_of_exhausted {s : State} (h : s.schedule = []) (n : Nat) : s.choose n = { index := 0, state := s } := by
  unfold State.choose
  split
  · rfl
  · rw [h]

theorem choose_of_schedule {s : State} {c : Nat} {rest : List Nat} (h : s.schedule = c :: rest) {n : Nat} (hn : 1 < n) :
    s.choose n = { index := c % n, state := s.setSchedule rest } := by
  unfold State.choose
  rw [if_neg (by omega), h]

/-- Settles O2: both reset commands make `resetPart`, DEVICE_RESET_EFFECT once its reply is sent. -/
theorem resetsGiveEveryBlockItsResetValues : Obligations.ResetsGiveEveryBlockItsResetValues := by
  refine ⟨fun rs1 rs0 lrx s => ⟨_, rfl, resetPart_values _ _ _ _ _⟩, fun rs1 rs0 lrx s f hp hf hr ho => ?_,
    fun s => ⟨fun h => choose_of_exhausted h 2, fun n rest h => choose_of_schedule h (by decide)⟩, fun rs1 rs0 lrx s h => ?_⟩
  · have hs : s.resetReplySent = true := (resetReplySent_iff s).2 ⟨hp, f, hf, hr, ho⟩
    exact ⟨_, execDeviceResetEffect_of_sent hs _ _ _, resetPart_values _ _ _ _ _⟩
  · refine execDeviceResetEffect_of_not_sent (fun hs => ?_) _ _ _
    obtain ⟨hp, f, hf, hr, ho⟩ := (resetReplySent_iff s).1 hs
    rcases h with h | h
    · rw [hp] at h; cases h
    · rcases h f hf with h | h
      · rw [hr] at h; cases h
      · omega

end Sys2Proof.Machine
end

section
/-! SUPPORT. O6 and O23: the requests that read, and PROBE_RESET. -/

namespace Sys2Proof.Machine

/-! ### What taking in a run's first tick leaves -/

@[simp] theorem madeStep_rpq (s : State) : (madeStep s).rpq = s.rpq := by
  rcases madeStep_cases s with ⟨-, e⟩ | ⟨-, pins, sch, e⟩ <;> rw [e]; rfl

@[simp] theorem takeIn_rpq (p : ProbeId) (s : State) : (takeIn p s).rpq = s.rpq := by
  unfold takeIn
  split
  · exact madeStep_rpq s
  · rfl

/-! ### The answers -/

/-- A request that raises no event is answered and nothing else (R198). -/
@[simp] theorem repliedRaising_nil (w : State) (kind tag : Byte) (r : Reply) :
    w.repliedRaising kind tag r [] = w.replied kind tag r := by
  simp [State.repliedRaising, State.replied]

/-- An accepted request of a kind that raises no event leaves its execution's state and reply (R175, R180). -/
theorem hostRequest_answered {s w : State} {tag : Byte} {r : Request} {reply : Reply} (h : Accepts s r.kind.code tag)
    (he : execute r s.counted = answer reply w) (hl : r.lengthAllowed = true) (ha : ofTable (.ok r) = true → s.actions = []) :
    (hostRequest tag r s).done = .next (w.replied r.kind.code tag reply) := by
  rw [hostRequest_of_accepts r h hl ha, he]
  exact congrArg Host.Outcome.next (repliedRaising_nil _ _ _ _)

theorem waiting_eq_length_filter (q : ReportQueue) (p : ProbeId) :
    q.waiting p = (q.entries.filter (fun x : Report => x.source == some p)).length :=
  List.countP_eq_length_filter

theorem statusView_counted (s : State) : s.counted.statusView =
    { counters := { s.hli.counters with goodFrame := satInc s.hli.counters.goodFrame }, systemLost := s.rpq.systemLost,
      cascadeCut := s.cpl.cascadeCut, probeTotal := (s.rpq.entries.filter (fun r => r.source.isSome)).length,
      systemTotal := (s.rpq.entries.filter (fun r => r.source.isNone)).length, credits := s.rpq.credits,
      staging := s.staging, now := s.timebase } := by
  rw [← List.countP_eq_length_filter, ← List.countP_eq_length_filter]; rfl

theorem Kind.counting_iff (k : Kind) : k.counting = true ↔ k = .count ∨ k = .updown ∨ k = .quad := by
  cases k <;> simp [Kind.counting]

theorem Probe.accShown_iff (pr : Probe) : pr.accShown = true ↔ pr.state = .running ∨ pr.state = .done := by
  simp [Probe.accShown]

/-- SNAPSHOT reads a counting probe in RUNNING or DONE (R52). -/
theorem snapshot_of_shown {p : ProbeId} {pl : Plan} {s : State} (hp : (s.probe p).plan = some pl)
    (hs : (s.probe p).state = .running ∨ (s.probe p).state = .done) (hk : pl.kind = .count ∨ pl.kind = .updown ∨ pl.kind = .quad) :
    snapshot p s = snapshotAnswer p (takeIn p s) := by
  unfold snapshot; dsimp only
  rw [if_pos]
  simp [hp, (Probe.accShown_iff _).2 hs, (Kind.counting_iff _).2 hk]

/-- SNAPSHOT is refused in every other state and under every other kind (R52). -/
theorem snapshot_of_not_shown {p : ProbeId} {s : State}
    (h : ((s.probe p).state ≠ .running ∧ (s.probe p).state ≠ .done) ∨
      ∃ pl, (s.probe p).plan = some pl ∧ pl.kind ≠ .count ∧ pl.kind ≠ .updown ∧ pl.kind ≠ .quad) :
    snapshot p s = denyState p s := by
  unfold snapshot; dsimp only
  rw [if_neg]
  rw [Bool.and_eq_true, Probe.accShown_iff]
  rintro ⟨hs, hk⟩
  rcases h with ⟨hr, hd⟩ | ⟨pl, hp, hc, hu, hq⟩
  · exact hs.elim hr hd
  · rw [hp, Option.any_some, Kind.counting_iff] at hk
    rcases hk with hk | hk | hk
    · exact hc hk
    · exact hu hk
    · exact hq hk

theorem mem_occupied (t : CouplingTable) (i : SlotId) (c : Coupling) : (i, c) ∈ t.occupied ↔ t.slots[i.val] = some c := by
  simp only [CouplingTable.occupied, List.mem_filterMap, List.mem_finRange, true_and, Option.map_eq_some_iff, Prod.mk.injEq]
  constructor
  · rintro ⟨j, d, hd, rfl, rfl⟩; exact hd
  · exact fun h => ⟨i, c, h, rfl, rfl⟩

/-- COUPLE_LIST lists the slots in ascending order (R131). -/
theorem occupied_ascending (t : CouplingTable) : t.occupied.Pairwise (fun x y => x.1 < y.1) := by
  unfold CouplingTable.occupied
  refine List.Pairwise.filterMap _ ?_ (List.pairwise_lt_finRange 24)
  intro i j hij x hx y hy
  obtain ⟨c, -, rfl⟩ := Option.map_eq_some_iff.1 hx
  obtain ⟨d, -, rfl⟩ := Option.map_eq_some_iff.1 hy
  exact hij

/-- Settles O6: each reading request executes to an answer whose state is that of the counted frame, or that with the first tick of
its probe's run taken in. -/
theorem readingRequestsAnswerAndChangeNothing : Obligations.ReadingRequestsAnswerAndChangeNothing := by
  refine ⟨fun tag s h => ?_, fun tag s h => ?_, fun tag s h => ?_, fun tag b p s h hb => ?_, fun tag b p pl s h hb hp hs hk => ?_,
    fun tag b p s h hb hs => ?_, fun tag s h ha => ?_⟩
  · exact hostRequest_answered (r := .time) h rfl rfl nofun
  · exact hostRequest_answered (r := .lineRead) h rfl rfl nofun
  · rw [← statusView_counted]
    exact hostRequest_answered (r := .status 0) h rfl rfl nofun
  · rw [← waiting_eq_length_filter, ← State.counted_rpq s, ← takeIn_rpq p s.counted]
    exact hostRequest_answered (r := .probeRead b) h (withProbe_of_val hb _ _) rfl nofun
  · rw [← State.counted_timebase s, ← (takeIn_keeps p s.counted).timebase]
    exact hostRequest_answered (r := .snapshot b) h ((withProbe_of_val hb _ _).trans (snapshot_of_shown hp hs hk)) rfl nofun
  · exact hostRequest_answered (r := .snapshot b) h ((withProbe_of_val hb _ _).trans (snapshot_of_not_shown hs)) rfl nofun
  · exact ⟨s.cpl.occupied, hostRequest_answered (r := .coupleList) h rfl rfl (fun _ => ha), mem_occupied s.cpl,
      occupied_ascending s.cpl⟩

/-! ### O23: PROBE_RESET (R63) -/

theorem probeOf_of_val {b : Byte} {p : ProbeId} (h : b.toNat = p.val) : probeOf b = some p := by
  have hb : b.toNat < 16 := h ▸ p.isLt
  rw [probeOf, dif_pos hb]
  exact congrArg some (Fin.ext h)

theorem betweenOffers_probeReset (b : Byte) {s : State} {o : Occasion} (h : s.occasion = some o) :
    betweenOffers (.ok (.probeReset b)) s = (probeOf b).any (· != o.probe) := by
  unfold betweenOffers; rw [h]

theorem ofTable_probeReset (b : Byte) : ofTable (.ok (.probeReset b)) = false := rfl

/-- PROBE_RESET claims no coupling: a completion in progress is all that may come before it (R139, R149). -/
theorem readyFor_probeReset (b : Byte) (s : State) :
    readyFor (.ok (.probeReset b)) s = if betweenOffers (.ok (.probeReset b)) s then s else continueOccasion false s := by
  unfold readyFor; dsimp only
  rw [ofTable_probeReset]; rfl

/-- A PROBE_RESET may come while another probe's completion stands between two of its offers (R149). -/
theorem readyFor_probeReset_of_other {b : Byte} {p : ProbeId} {s : State} (hb : b.toNat = p.val)
    (h : ∀ o, s.occasion = some o → o.probe ≠ p) : readyFor (.ok (.probeReset b)) s = s := by
  rw [readyFor_probeReset]
  cases ho : s.occasion with
  | none => rw [continueOccasion_of_none ho, ite_self]
  | some o =>
    have hne : (p != o.probe) = true := bne_iff_ne.2 (Ne.symm (h o ho))
    rw [betweenOffers_probeReset b ho, probeOf_of_val hb, Option.any_some, if_pos hne]

/-- A completion of its own probe is first made whole (R53, R68). -/
theorem readyFor_probeReset_of_own {b : Byte} {p : ProbeId} {s : State} {o : Occasion} (hb : b.toNat = p.val)
    (ho : s.occasion = some o) (hp : o.probe = p) : readyFor (.ok (.probeReset b)) s = continueOccasion false s := by
  rw [readyFor_probeReset, betweenOffers_probeReset b ho, probeOf_of_val hb, Option.any_some, hp, if_neg (by simp)]

/-- The state a PROBE_RESET leaves, block by block (R43, R63, R155). -/
theorem resetProbe_eq (p : ProbeId) (u : State) : resetProbe p u =
    { u with
      probes := u.probes.set p.val .reset
      staging := (resetProbe p u).staging
      rpq := { u.rpq with
        entries := u.rpq.entries.filter (fun r => r.source != some p), lostBefore := u.rpq.lostBefore.set p.val 0 } } := by
  unfold resetProbe State.releaseOf
  split <;> rfl

theorem resetProbe_staging (p : ProbeId) (u : State) :
    (resetProbe p u).staging = if u.staging.any (fun st => st.owner == p) then none else u.staging := by
  have hu : ((u.setProbe p .reset).purge p).owns p = u.staging.any (fun st => st.owner == p) := rfl
  unfold resetProbe State.releaseOf
  rw [hu]
  split <;> rfl

/-- Settles O23: the frame is admitted, the standing completion gives way, and the reset of the probe is answered. -/
theorem probeResetClearsOneProbe : Obligations.ProbeResetClearsOneProbe := by
  intro tag b p s u ha hb hu
  have hready : readyFor (.ok (.probeReset b)) s.counted = u := by
    rcases hu with ⟨h, rfl⟩ | ⟨⟨o, ho, hp⟩, rfl⟩
    · exact readyFor_probeReset_of_other hb h
    · exact readyFor_probeReset_of_own hb ho hp
  have hexec : execute (.probeReset b) u = probeReset p u := withProbe_of_val hb _ _
  refine ⟨resetProbe p u, ?_, resetProbe_eq p u, ?_, ?_⟩
  · have hg := goodFrame_of_admitted ha (.ok (.probeReset b))
    rw [hready] at hg
    dsimp only [dispatch] at hg
    rw [hexec] at hg
    rw [← waiting_eq_length_filter]
    change (goodFrame 0x33 tag (.ok (.probeReset b)) s).done = _
    rw [hg]
    exact congrArg Host.Outcome.next (repliedRaising_nil _ _ _ _)
  · rintro ⟨st, hst, ho⟩
    rw [resetProbe_staging, hst, if_pos (by simpa using ho)]
  · intro h
    rw [resetProbe_staging, if_neg]
    rw [Option.any_eq_true]
    rintro ⟨st, hst, ho⟩
    exact h st hst (by simpa using ho)

end Sys2Proof.Machine
end

section
/-! SUPPORT. O12: the reports of a completion, offered one after another, and its END report. -/

namespace Sys2Proof.Machine

/-! ### Saturating counters and the room of the queue -/

theorem satInc_eq_ofNat {w : Nat} (x : BitVec w) : satInc x = BitVec.ofNat w (min (x.toNat + 1) (2 ^ w - 1)) := by
  have hx := x.isLt
  apply BitVec.eq_of_toNat_eq
  unfold satInc
  split
  · rename_i h
    subst h
    simp
  · rename_i h
    have hne : x.toNat ≠ 2 ^ w - 1 := fun e => h (BitVec.eq_of_toNat_eq (by simpa using e))
    rw [Nat.min_eq_left (by omega), BitVec.ofNat_add, BitVec.ofNat_toNat, BitVec.setWidth_eq]
    rfl

theorem satInc_toNat {w : Nat} (x : BitVec w) : (satInc x).toNat = min (x.toNat + 1) (2 ^ w - 1) := by
  have : 0 < 2 ^ w := Nat.two_pow_pos w
  rw [satInc_eq_ofNat, BitVec.toNat_ofNat, Nat.mod_eq_of_lt (by omega)]

theorem hasRoom_iff {s : State} {p : ProbeId} {pl : Plan} (hp : (s.probe p).plan = some pl) :
    s.hasRoom p = true ↔ s.rpq.probeTotal < 60 ∧ s.rpq.waiting p < pl.quota := by
  simp [State.hasRoom, hp, Config.probeShare]

theorem enqueueReport_probeTotal (s : State) (p : ProbeId) (body : ReportBody) :
    (s.enqueueReport p body).rpq.probeTotal = s.rpq.probeTotal + 1 := by
  simp [ReportQueue.probeTotal, State.enqueueReport, Report.source]

/-! ### No dequeue between -/

/-- No dequeue can come between offers: the link is held, or the schedule is exhausted (log 8). -/
def State.noDequeue (s : State) : Prop := s.linkHeld ∨ s.schedule = []

theorem canDequeue_of_linkHeld {s : State} (h : s.linkHeld) : s.canDequeue = false := by
  unfold State.canDequeue
  rcases h with h | h | h
  · cases ht : s.hli.transmitter with
    | none => exact absurd ht h
    | some f => rfl
  · cases hr : s.hli.replies with
    | nil => exact absurd hr h
    | cons m ms => simp
  · simp [h]

theorem raceDequeue_of_noDequeue {s : State} (h : s.noDequeue) : s.raceDequeue = s := by
  rcases h with h | h
  · exact s.raceDequeue_of_not (canDequeue_of_linkHeld h)
  · unfold State.raceDequeue
    rw [choose_of_exhausted h]
    simp

/-! ### One offer, and the offers of a list that all meet the same room -/

theorem generate_of_room {s : State} {p : ProbeId} (h : (s.raceDequeue.withGenerated p).hasRoom p = true) (body : ReportBody) :
    s.generate p body = { state := (s.raceDequeue.withGenerated p).enqueueReport p body, lost := false } := if_pos h

theorem generate_of_no_room {s : State} {p : ProbeId} (h : ¬ (s.raceDequeue.withGenerated p).hasRoom p = true) (body : ReportBody) :
    s.generate p body = { state := (s.raceDequeue.withGenerated p).loseReport p, lost := true } := if_neg h

theorem withGenerated_plan (s : State) (p : ProbeId) : ((s.withGenerated p).probe p).plan = (s.probe p).plan := by
  rw [withGenerated_probe, if_pos rfl]

theorem hasRoom_withGenerated_iff {s : State} {p : ProbeId} {pl : Plan} (hp : (s.probe p).plan = some pl) :
    (s.withGenerated p).hasRoom p = true ↔ s.rpq.probeTotal < 60 ∧ s.rpq.waiting p < pl.quota :=
  hasRoom_iff ((withGenerated_plan s p).trans hp)

/-- The state after the reports `bodies` of `p` were all enqueued (R147). -/
def State.allEnqueued (s : State) (p : ProbeId) (bodies : List ReportBody) : State :=
  { s with
    probes := s.probes.set p.val { s.probe p with generated := (s.probe p).generated + BitVec.ofNat 32 bodies.length }
    rpq := { s.rpq with
      entries := s.rpq.entries ++ reportsOf p (s.probe p).generation s.timebase s.rpq.lostBefore[p.val] bodies
      lostBefore := if bodies = [] then s.rpq.lostBefore else s.rpq.lostBefore.set p.val 0 } }

/-- The state after the reports `bodies` of `p` were all lost (R148). -/
def State.allLost (s : State) (p : ProbeId) (bodies : List ReportBody) : State :=
  { s with
    probes := s.probes.set p.val
      { s.probe p with
        generated := (s.probe p).generated + BitVec.ofNat 32 bodies.length
        lost := (s.probe p).lost + BitVec.ofNat 32 bodies.length }
    rpq := { s.rpq with
      lostBefore := if bodies = [] then s.rpq.lostBefore else s.rpq.lostBefore.set p.val
        (BitVec.ofNat 16 (min (s.rpq.lostBefore[p.val].toNat + bodies.length) 65535)) } }

theorem allEnqueued_nil (s : State) (p : ProbeId) : s.allEnqueued p [] = s := by
  have hg : (s.probe p).generated + BitVec.ofNat 32 0 = (s.probe p).generated := BitVec.add_zero _
  simp only [State.allEnqueued, List.length_nil, hg, reportsOf, List.append_nil, if_true]
  exact State.setProbe_self s p

theorem allLost_nil (s : State) (p : ProbeId) : s.allLost p [] = s := by
  have hg : (s.probe p).generated + BitVec.ofNat 32 0 = (s.probe p).generated := BitVec.add_zero _
  have hl : (s.probe p).lost + BitVec.ofNat 32 0 = (s.probe p).lost := BitVec.add_zero _
  simp only [State.allLost, List.length_nil, hg, hl, if_true]
  exact State.setProbe_self s p

theorem add_ofNat_succ {w : Nat} (x : BitVec w) (n : Nat) : x + 1 + BitVec.ofNat w n = x + BitVec.ofNat w (n + 1) := by
  rw [BitVec.ofNat_add]; ac_rfl

/-- The first report enqueued, and then the others. -/
theorem allEnqueued_cons (s : State) (p : ProbeId) (b : ReportBody) (bs : List ReportBody) :
    s.allEnqueued p (b :: bs) = ((s.withGenerated p).enqueueReport p b).allEnqueued p bs := by
  have hpr := withGenerated_probe s p p
  rw [if_pos rfl] at hpr
  simp only [State.allEnqueued, enqueueReport_probe, hpr, add_ofNat_succ]
  cases bs <;> simp [State.withGenerated, State.enqueueReport, State.setProbe, State.setRpq, reportsOf, State.probe]

/-- The first report lost, and then the others. -/
theorem allLost_cons (s : State) (p : ProbeId) (b : ReportBody) (bs : List ReportBody) :
    s.allLost p (b :: bs) = ((s.withGenerated p).loseReport p).allLost p bs := by
  have hpr := loseReport_probe (s.withGenerated p) p p
  rw [if_pos rfl, withGenerated_probe, if_pos rfl] at hpr
  have hlb : ((s.withGenerated p).loseReport p).rpq.lostBefore = s.rpq.lostBefore.set p.val (satInc s.rpq.lostBefore[p.val]) := rfl
  have hmin : min ((satInc s.rpq.lostBefore[p.val]).toNat + bs.length) 65535 =
      min (s.rpq.lostBefore[p.val].toNat + (b :: bs).length) 65535 := by
    rw [satInc_toNat, List.length_cons]; omega
  simp only [State.allLost, hpr, add_ofNat_succ, hlb, Vector.getElem_set_self, hmin, Vector.set_set, List.length_cons]
  cases bs with
  | nil => simp [State.withGenerated, State.loseReport, State.setProbe, State.setRpq, State.probe, satInc_eq_ofNat]
  | cons => simp [State.withGenerated, State.loseReport, State.setProbe, State.setRpq, State.probe]

theorem offerReports_false_cons (p : ProbeId) (b : ReportBody) (bs : List ReportBody) (lost : Bool) (s : State) :
    offerReports false p (b :: bs) lost s =
      offerReports false p bs (lost || (s.generate p b).lost) (s.generate p b).state := rfl

/-- With room and no dequeue between, each report is enqueued in order (R147). -/
theorem offerReports_enqueued {p : ProbeId} {pl : Plan} {s : State} (bodies : List ReportBody) (lost : Bool) (hd : s.noDequeue)
    (hp : (s.probe p).plan = some pl) (ht : s.rpq.probeTotal + bodies.length ≤ 60)
    (hq : s.rpq.waiting p + bodies.length ≤ pl.quota) :
    offerReports false p bodies lost s = { state := s.allEnqueued p bodies, lost := lost, remaining := none } := by
  induction bodies generalizing s with
  | nil => rw [allEnqueued_nil]; rfl
  | cons b bs ih =>
    rw [List.length_cons] at ht hq
    have hroom : (s.withGenerated p).hasRoom p = true := (hasRoom_withGenerated_iff hp).2 ⟨by omega, by omega⟩
    have hg := generate_of_room (s := s) (p := p) (by rw [raceDequeue_of_noDequeue hd]; exact hroom) b
    rw [raceDequeue_of_noDequeue hd] at hg
    rw [offerReports_false_cons, hg, Bool.or_false, allEnqueued_cons]
    refine ih hd ?_ ?_ ?_
    · rw [enqueueReport_probe, withGenerated_plan, hp]
    · rw [enqueueReport_probeTotal, withGenerated_rpq]; omega
    · rw [enqueueReport_waiting, withGenerated_rpq, if_pos rfl]; omega

/-- With the quota reached each report is lost (R148). -/
theorem offerReports_lost {p : ProbeId} {pl : Plan} {s : State} (bodies : List ReportBody) (lost : Bool) (hd : s.noDequeue)
    (hp : (s.probe p).plan = some pl) (hq : pl.quota ≤ s.rpq.waiting p) :
    offerReports false p bodies lost s =
      { state := s.allLost p bodies, lost := lost || decide (bodies ≠ []), remaining := none } := by
  induction bodies generalizing s lost with
  | nil => rw [allLost_nil]; simp [offerReports]
  | cons b bs ih =>
    have hroom : ¬ (s.withGenerated p).hasRoom p = true := by rw [hasRoom_withGenerated_iff hp]; omega
    have hg := generate_of_no_room (s := s) (p := p) (by rw [raceDequeue_of_noDequeue hd]; exact hroom) b
    rw [raceDequeue_of_noDequeue hd] at hg
    have hp1 : (((s.withGenerated p).loseReport p).probe p).plan = some pl := by
      rw [loseReport_probe, if_pos rfl]; exact (withGenerated_plan s p).trans hp
    rw [offerReports_false_cons, hg, allLost_cons]
    refine (ih (s := (s.withGenerated p).loseReport p) _ hd hp1 hq).trans ?_
    simp

/-! ### The pauses between offers (R149) -/

theorem standing_of_schedule {s : State} {n : Nat} {rest : List Nat} (h : s.schedule = n :: rest) :
    s.standing true = { index := n % 2, state := s.setSchedule rest } := choose_of_schedule h (by decide)

theorem standing_of_exhausted {s : State} (h : s.schedule = []) : s.standing true = { index := 0, state := s } :=
  choose_of_exhausted h 2

theorem offerReports_cons_stands {pauses : Bool} {s : State} (h : (s.standing pauses).index = 1) (p : ProbeId) (b : ReportBody)
    (bs : List ReportBody) (lost : Bool) :
    offerReports pauses p (b :: bs) lost s = { state := (s.standing pauses).state, lost := lost, remaining := some (b :: bs) } :=
  if_pos h

theorem offerReports_cons_goes_on {pauses : Bool} {s : State} (h : (s.standing pauses).index ≠ 1) (p : ProbeId) (b : ReportBody)
    (bs : List ReportBody) (lost : Bool) :
    offerReports pauses p (b :: bs) lost s =
      offerReports pauses p bs (lost || ((s.standing pauses).state.generate p b).lost) ((s.standing pauses).state.generate p b).state :=
  if_neg h

/-- An odd number of the schedule: the completion stands before the offer (log 8). -/
theorem offerReports_cons_of_odd {s : State} {n : Nat} {rest : List Nat} (hs : s.schedule = n :: rest) (hn : n % 2 = 1) (p : ProbeId)
    (b : ReportBody) (bs : List ReportBody) (lost : Bool) :
    offerReports true p (b :: bs) lost s = { state := s.setSchedule rest, lost := lost, remaining := some (b :: bs) } := by
  have e := standing_of_schedule hs
  rw [offerReports_cons_stands (by rw [e]; exact hn), e]

/-- An even number of the schedule: the offer is made, and the number is used up. -/
theorem offerReports_cons_of_even {s : State} {n : Nat} {rest : List Nat} (hs : s.schedule = n :: rest) (hn : n % 2 = 0) (p : ProbeId)
    (b : ReportBody) (bs : List ReportBody) (lost : Bool) :
    offerReports true p (b :: bs) lost s =
      offerReports true p bs (lost || ((s.setSchedule rest).generate p b).lost) ((s.setSchedule rest).generate p b).state := by
  have e := standing_of_schedule hs
  rw [offerReports_cons_goes_on (by rw [e]; simp [hn]), e]

theorem offerReports_cons_of_exhausted {s : State} (hs : s.schedule = []) (p : ProbeId) (b : ReportBody) (bs : List ReportBody)
    (lost : Bool) :
    offerReports true p (b :: bs) lost s = offerReports true p bs (lost || (s.generate p b).lost) (s.generate p b).state := by
  have e := standing_of_exhausted hs
  rw [offerReports_cons_goes_on (by rw [e]; simp), e]

theorem offerAndClose_stands {pauses : Bool} {p : ProbeId} {bodies : List ReportBody} {lost : Bool} {s : State} {bs : List ReportBody}
    (h : (offerReports pauses p bodies lost s).remaining = some bs) (pl : Plan) (result : QualResult) :
    offerAndClose pauses p pl result bodies lost s = (offerReports pauses p bodies lost s).state.setOccasion
      (some { probe := p, result := result, remaining := bs, lost := (offerReports pauses p bodies lost s).lost }) := by
  unfold offerAndClose; dsimp only
  rw [h]

theorem offerAndClose_whole {pauses : Bool} {p : ProbeId} {bodies : List ReportBody} {lost : Bool} {s : State}
    (h : (offerReports pauses p bodies lost s).remaining = none) (pl : Plan) (result : QualResult) :
    offerAndClose pauses p pl result bodies lost s =
      closeWindow pauses p pl result (offerReports pauses p bodies lost s).lost (offerReports pauses p bodies lost s).state := by
  unfold offerAndClose; dsimp only
  rw [h]

theorem continueOccasion_of_running {s : State} {o : Occasion} {pl : Plan} (ho : s.occasion = some o)
    (hp : (s.probe o.probe).plan = some pl) (hr : (s.probe o.probe).state = .running) (pauses : Bool) :
    continueOccasion pauses s = offerAndClose pauses o.probe pl o.result o.remaining o.lost (s.setOccasion none) := by
  unfold continueOccasion
  rw [ho]; dsimp only
  rw [hp]; dsimp only
  rw [if_pos hr]

/-- The reports of step 5 are those report_select allows (R17, R55). -/
theorem completionBodies_eq_selected (pl : Plan) (f : Formed) :
    completionBodies pl f =
      selectedReports pl f.result (sampleFlags pl f.probe f.sample) f.sample.value f.probe.windowsDone := by
  unfold completionBodies selectedReports
  cases pl.reportSelect <;> cases f.result <;> simp

/-! ### The END report (R57) -/

theorem choose_setProbe (s : State) (p : ProbeId) (x : Probe) (n : Nat) :
    (s.setProbe p x).choose n = { index := (s.choose n).index, state := (s.choose n).state.setProbe p x } := by
  unfold State.choose
  split
  · rfl
  · rw [State.setProbe_schedule]
    split <;> rfl

theorem setProbe_comm (s : State) {p q : ProbeId} (h : p ≠ q) (x y : Probe) :
    (s.setProbe p x).setProbe q y = (s.setProbe q y).setProbe p x := by
  unfold State.setProbe; dsimp only
  rw [Vector.set_comm _ _ (Fin.val_ne_of_ne h)]

/-- The queue and the link after the oldest report has left (R160). -/
def State.popped (s : State) (r : Report) (rest : List Report) : State :=
  { s with
    rpq := { s.rpq with entries := rest, credits := s.rpq.credits - 1 }
    hli := { s.hli with
      transmitter := some { bytes := frameBytes r.kind s.hli.sequence r.data, begun := s.timebase, resetReply := false }
      sequence := s.hli.sequence + 1 } }

/-- A dequeue takes the oldest report and counts it as transmitted of its probe (R160). -/
theorem dequeue_of_cons {s : State} {r : Report} {rest : List Report} (h : s.rpq.entries = r :: rest) :
    s.dequeue = match r.source with
      | none => s.popped r rest
      | some q => (s.popped r rest).setProbe q { s.probe q with transmitted := (s.probe q).transmitted + 1 } := by
  unfold State.dequeue
  rw [h]; rfl

theorem popped_setProbe (s : State) (p : ProbeId) (x : Probe) (r : Report) (rest : List Report) :
    (s.setProbe p x).popped r rest = (s.popped r rest).setProbe p x := rfl

/-- A dequeue counts a transmitted report alone, so that a run may end before it or after it. -/
theorem dequeue_ended (s : State) (p : ProbeId) (o : RunOutcome) :
    (s.setProbe p ((s.probe p).ended o)).dequeue = s.dequeue.setProbe p ((s.dequeue.probe p).ended o) := by
  cases he : s.rpq.entries with
  | nil =>
    have he' : (s.setProbe p ((s.probe p).ended o)).rpq.entries = [] := he
    rw [dequeue_of_empty he, dequeue_of_empty he']
  | cons r rest =>
    have he' : (s.setProbe p ((s.probe p).ended o)).rpq.entries = r :: rest := he
    rw [dequeue_probe_of he, dequeue_of_cons he, dequeue_of_cons he', popped_setProbe]
    cases hr : r.source with
    | none => rfl
    | some q =>
      dsimp only
      by_cases hq : p = q
      · subst hq
        rw [State.probe_setProbe_self, if_pos rfl, State.setProbe_setProbe, State.setProbe_setProbe]; rfl
      · rw [State.probe_setProbe_ne _ _ (Ne.symm hq), if_neg (by simpa using Ne.symm hq), setProbe_comm _ hq]

theorem raceDequeue_ended (s : State) (p : ProbeId) (o : RunOutcome) :
    (s.setProbe p ((s.probe p).ended o)).raceDequeue = s.raceDequeue.setProbe p ((s.raceDequeue.probe p).ended o) := by
  have hc : (s.setProbe p ((s.probe p).ended o)).canDequeue = s.canDequeue := rfl
  have hp : (s.choose 2).state.probe p = s.probe p := by
    obtain ⟨sch, e⟩ := s.choose_state 2
    rw [e]; rfl
  unfold State.raceDequeue
  rw [hc, choose_setProbe]; dsimp only
  split
  · split
    · rw [← hp]; exact dequeue_ended _ _ _
    · rw [hp]
  · rfl

@[simp] theorem dequeue_lostBefore (s : State) : s.dequeue.rpq.lostBefore = s.rpq.lostBefore := by
  unfold State.dequeue
  split
  · rfl
  · split <;> rfl

@[simp] theorem raceDequeue_lostBefore (s : State) : s.raceDequeue.rpq.lostBefore = s.rpq.lostBefore := by
  rcases s.raceDequeue_cases with ⟨sch, e⟩ | ⟨-, sch, e⟩ <;> simp [e]

/-- An END report of a completion shows nothing that a dequeue counts (R196). -/
theorem endReport_raceDequeue (s : State) (p : ProbeId) (pl : Plan) (o : RunOutcome) :
    endReport pl ((s.probe p).ended o) o false =
      let pr := s.raceDequeue.probe p
      .runEnd { saturated := false, settled := pr.qual.settled, level := false, illegal := pl.kind == .quad && pr.quadErrors != 0 }
        pr.windowsDone o pr.quadErrors pr.lastSample none := by
  rw [← s.raceDequeue_probe p]; rfl

/-- The END report with room: the probe is DONE, and the report is enqueued behind the dequeue that may have come (R57, R147). -/
theorem endRun_enqueued {s : State} {p : ProbeId} {pl : Plan} (hp : (s.probe p).plan = some pl) (o : RunOutcome)
    (ht : s.raceDequeue.rpq.probeTotal < 60) (hq : s.raceDequeue.rpq.waiting p < pl.quota) :
    let u := s.raceDequeue
    endRun p pl o false s = { u with
      probes := u.probes.set p.val { (u.probe p).ended o with generated := (u.probe p).generated + 1 }
      rpq := { u.rpq with
        entries := u.rpq.entries ++
          [.probe p (u.probe p).generation s.timebase s.rpq.lostBefore[p.val] (endReport pl ((s.probe p).ended o) o false)]
        lostBefore := s.rpq.lostBefore.set p.val 0 } } := by
  have hpu : (((s.raceDequeue.setProbe p ((s.raceDequeue.probe p).ended o))).probe p).plan = some pl := by
    rw [State.probe_setProbe_self]; exact (s.raceDequeue_probe p).counters.plan.trans hp
  dsimp only
  rw [endRun_eq, generate_of_room]
  · rw [raceDequeue_ended, ← s.raceDequeue_keeps.timebase, ← raceDequeue_lostBefore s]
    simp [State.withGenerated, State.enqueueReport, State.setProbe, State.setRpq, State.probe, Probe.ended]
  · rw [raceDequeue_ended]
    exact (hasRoom_withGenerated_iff hpu).2 ⟨ht, hq⟩

/-- The END report without room: the probe is DONE all the same, and the report is lost (R57, R148). -/
theorem endRun_lost {s : State} {p : ProbeId} {pl : Plan} (hp : (s.probe p).plan = some pl) (o : RunOutcome)
    (h : 60 ≤ s.raceDequeue.rpq.probeTotal ∨ pl.quota ≤ s.raceDequeue.rpq.waiting p) :
    let u := s.raceDequeue
    endRun p pl o false s = { u with
      probes := u.probes.set p.val
        { (u.probe p).ended o with generated := (u.probe p).generated + 1, lost := (u.probe p).lost + 1 }
      rpq := { u.rpq with
        lostBefore := s.rpq.lostBefore.set p.val (BitVec.ofNat 16 (min (s.rpq.lostBefore[p.val].toNat + 1) 65535)) } } := by
  have hpu : (((s.raceDequeue.setProbe p ((s.raceDequeue.probe p).ended o))).probe p).plan = some pl := by
    rw [State.probe_setProbe_self]; exact (s.raceDequeue_probe p).counters.plan.trans hp
  dsimp only
  rw [endRun_eq, generate_of_no_room]
  · rw [raceDequeue_ended, ← raceDequeue_lostBefore s]
    simp [State.withGenerated, State.loseReport, State.setProbe, State.setRpq, State.probe, Probe.ended, satInc_eq_ofNat]
  · rw [raceDequeue_ended, hasRoom_withGenerated_iff hpu]
    simp only [State.setProbe_rpq]; omega

theorem closeWindow_goes_on {pl : Plan} {result : QualResult} {lost : Bool} {s : State} {p : ProbeId}
    (h : runEndDecision pl result lost (s.probe p).windowsDone = none) (pauses : Bool) :
    closeWindow pauses p pl result lost s = finishWindow p pl result false s := by
  unfold closeWindow; rw [h]

theorem closeWindow_stands {pl : Plan} {result : QualResult} {lost : Bool} {s : State} {p : ProbeId} {o : RunOutcome}
    (h : runEndDecision pl result lost (s.probe p).windowsDone = some o) {pauses : Bool} (hi : (s.standing pauses).index = 1) :
    closeWindow pauses p pl result lost s =
      (s.standing pauses).state.setOccasion (some { probe := p, result := result, remaining := [], lost := lost }) := by
  unfold closeWindow; rw [h]
  exact if_pos hi

theorem closeWindow_ends {pl : Plan} {result : QualResult} {lost : Bool} {s : State} {p : ProbeId} {o : RunOutcome}
    (h : runEndDecision pl result lost (s.probe p).windowsDone = some o) {pauses : Bool} (hi : (s.standing pauses).index ≠ 1) :
    closeWindow pauses p pl result lost s = finishWindow p pl result true (endRun p pl o false (s.standing pauses).state) := by
  unfold closeWindow; rw [h]
  exact if_neg hi

theorem standing_false (s : State) : s.standing false = { index := 0, state := s } := rfl

/-- A run that ends without a pause: steps 7 to 9 follow at once. -/
theorem closeWindow_false_ends {pl : Plan} {result : QualResult} {lost : Bool} {s : State} {p : ProbeId} {o : RunOutcome}
    (h : runEndDecision pl result lost (s.probe p).windowsDone = some o) :
    closeWindow false p pl result lost s = finishWindow p pl result true (endRun p pl o false s) :=
  closeWindow_ends h (by simp [standing_false])

/-- Where the schedule is exhausted a completion does not stand before its END report. -/
theorem closeWindow_of_exhausted {pl : Plan} {result : QualResult} {lost : Bool} {s : State} {p : ProbeId} {o : RunOutcome}
    (h : runEndDecision pl result lost (s.probe p).windowsDone = some o) (hs : s.schedule = []) :
    closeWindow true p pl result lost s = closeWindow false p pl result lost s := by
  have e := standing_of_exhausted hs
  rw [closeWindow_ends h (pauses := true) (by simp [e]), e, closeWindow_false_ends h]

/-- An odd number of the schedule: the completion stands before its END report, with no other report to offer. -/
theorem closeWindow_of_odd {pl : Plan} {result : QualResult} {lost : Bool} {s : State} {p : ProbeId} {o : RunOutcome}
    (h : runEndDecision pl result lost (s.probe p).windowsDone = some o) {n : Nat} {rest : List Nat} (hs : s.schedule = n :: rest)
    (hn : n % 2 = 1) : closeWindow true p pl result lost s =
      (s.setSchedule rest).setOccasion (some { probe := p, result := result, remaining := [], lost := lost }) := by
  have e := standing_of_schedule hs
  rw [closeWindow_stands h (pauses := true) (by rw [e]; exact hn), e]

/-- An even number of the schedule lets a completion go on to its END report, and is used up. -/
theorem closeWindow_of_even {pl : Plan} {result : QualResult} {lost : Bool} {s : State} {p : ProbeId} {o : RunOutcome}
    (h : runEndDecision pl result lost (s.probe p).windowsDone = some o) {n : Nat} {rest : List Nat} (hs : s.schedule = n :: rest)
    (hn : n % 2 = 0) : closeWindow true p pl result lost s = closeWindow false p pl result lost (s.setSchedule rest) := by
  have e := standing_of_schedule hs
  rw [closeWindow_ends h (pauses := true) (by rw [e]; simp [hn]), e]
  exact (closeWindow_false_ends (s := s.setSchedule rest) h).symm

/-- Settles O12, clause by clause: the reports selected, the offers of step 5 as lists and one by one, the pauses between them, and the
run's end. -/
theorem completionReportsAreOfferedInOrder : Obligations.CompletionReportsAreOfferedInOrder := by
  refine ⟨completionBodies_eq_selected,
    fun s p pl bodies lost hd hp => ⟨offerReports_enqueued bodies lost hd hp, offerReports_lost bodies lost hd hp⟩,
    fun s p b bs lost => ⟨rfl, offerReports_false_cons p b bs lost s⟩,
    fun s p b bs lost rest => ⟨fun n hs hn => offerReports_cons_of_odd hs hn p b bs lost,
      fun n hs hn => offerReports_cons_of_even hs hn p b bs lost, fun hs => offerReports_cons_of_exhausted hs p b bs lost⟩,
    fun s o pl pauses ho hp hr => ?_,
    fun pauses p pl result bodies lost s => ⟨fun bs h => offerAndClose_stands h _ _, fun h => offerAndClose_whole h _ _⟩,
    fun s p pl result lost hp => ⟨closeWindow_goes_on, fun o h => ⟨fun ht hq => ?_, fun hl => ?_, closeWindow_of_exhausted h,
      fun n rest hs => ⟨closeWindow_of_odd h hs, closeWindow_of_even h hs⟩⟩⟩⟩
  · rw [continueOccasion_of_running ho hp hr]
    exact ⟨fun bs h => offerAndClose_stands h _ _, fun h => offerAndClose_whole h _ _⟩
  · rw [closeWindow_false_ends h, endRun_enqueued hp o ht hq, endReport_raceDequeue]; rfl
  · rw [closeWindow_false_ends h, endRun_lost hp o hl]; rfl

end Sys2Proof.Machine
end

section
/-! SUPPORT. O30: validation walks R21's table row by row, and an accepted record is its plan's record. -/

namespace Sys2Proof.Machine

/-! ### Codes and the names they stand for -/

/-- In a list of named values a code is the place of the value it names. -/
theorem code_of_getElem? {α : Type} {names : List α} {code : α → Byte} (hc : ∀ i (h : i < names.length), (code names[i]).toNat = i)
    {b : Byte} {x : α} (h : names[b.toNat]? = some x) : code x = b := by
  obtain ⟨hlt, rfl⟩ := List.getElem?_eq_some_iff.1 h
  exact BitVec.eq_of_toNat_eq (hc _ hlt)

theorem Kind.code_of_ofCode {b : Byte} {k : Kind} (h : Kind.ofCode b = some k) : k.code = b :=
  code_of_getElem? (code := Kind.code) (by decide) h

theorem OnSettle.code_of_ofCode {b : Byte} {x : OnSettle} (h : OnSettle.ofCode b = some x) : x.code = b :=
  code_of_getElem? (code := OnSettle.code) (by decide) h

theorem ReportSelect.code_of_ofCode {b : Byte} {x : ReportSelect} (h : ReportSelect.ofCode b = some x) : x.code = b :=
  code_of_getElem? (code := ReportSelect.code) (by decide) h

theorem LossPolicy.code_of_ofCode {b : Byte} {x : LossPolicy} (h : LossPolicy.ofCode b = some x) : x.code = b :=
  code_of_getElem? (code := LossPolicy.code) (by decide) h

/-- A code names nothing where it is past the list's end. -/
theorem getElem?_isNone {α : Type} (names : List α) (n : Nat) : names[n]?.isNone = decide (names.length ≤ n) := by
  rw [Bool.eq_iff_iff, decide_eq_true_iff, Option.isNone_iff_eq_none, List.getElem?_eq_none_iff]

theorem Kind.ofCode_isNone (b : Byte) : (Kind.ofCode b).isNone = decide (6 < b.toNat) := getElem?_isNone _ _

theorem OnSettle.ofCode_isNone (b : Byte) : (OnSettle.ofCode b).isNone = decide (1 < b.toNat) := getElem?_isNone _ _

theorem ReportSelect.ofCode_isNone (b : Byte) : (ReportSelect.ofCode b).isNone = decide (2 < b.toNat) := getElem?_isNone _ _

theorem LossPolicy.ofCode_isNone (b : Byte) : (LossPolicy.ofCode b).isNone = decide (1 < b.toNat) := getElem?_isNone _ _

theorem lineOf_isNone (b : Byte) : (lineOf b).isNone = decide (15 < b.toNat) := by
  unfold lineOf
  split
  · rename_i h; exact (decide_eq_false (by omega)).symm
  · rename_i h; exact (decide_eq_true (by omega)).symm

theorem lineOf_val {b : Byte} {l : LineId} (h : lineOf b = some l) : BitVec.ofNat 8 l.val = b := by
  unfold lineOf at h
  split at h
  · cases h; simp
  · cases h

/-! The tests of R21 on the kind byte are those on the kind it names. -/

theorem Kind.code_edgeDefined (k : Kind) : (k.code == 0 || k.code == 1 || k.code == 2) = k.edgeDefined := by cases k <;> rfl

theorem Kind.code_counting (k : Kind) : (k.code == 3 || (k.code == 4 || k.code == 5)) = k.counting := by cases k <;> rfl

theorem Kind.code_signed (k : Kind) : (k.code == 4 || k.code == 5) = (k == .updown || k == .quad) := by cases k <;> rfl

theorem Kind.code_dropout (k : Kind) : (k.code == 6) = (k == .dropout) := by cases k <;> rfl

theorem Kind.code_span (k : Kind) : (k.code == 2) = (k == .span) := by cases k <;> rfl

/-! ### The table, row by row -/

/-- The fault of the first failing row of a table, and `v` where every row passes (R20). -/
def checked (rows : List ParamCheck) (v : Except ParamFault Plan) : Except ParamFault Plan :=
  match rows.find? (fun c => c.fails) with
  | some c => .error { reason := c.reason, field := c.field }
  | none => v

theorem checked_nil (v : Except ParamFault Plan) : checked [] v = v := rfl

section
variable {field : Nat} {reason : ParamReason} {rows : List ParamCheck} {e v : Except ParamFault Plan}

theorem checked_fails : checked (⟨true, field, reason⟩ :: rows) v = .error { reason := reason, field := field } := rfl

theorem checked_passes : checked (⟨false, field, reason⟩ :: rows) v = checked rows v := rfl

/-- A test of `validate` that agrees with the next row is that row. -/
theorem ite_eq_checked {p : Prop} [Decidable p] (h : e = checked rows v) :
    (if p then .error { reason := reason, field := field } else e) = checked (⟨decide p, field, reason⟩ :: rows) v := by
  by_cases hp : p
  · rw [if_pos hp, decide_eq_true hp]; rfl
  · rw [if_neg hp, decide_eq_false hp]; exact h

theorem bool_ite_eq_checked {b : Bool} (h : e = checked rows v) :
    (if b then .error { reason := reason, field := field } else e) = checked (⟨b, field, reason⟩ :: rows) v := by
  cases b with
  | true => rfl
  | false => exact h

end

/-- The plan that a record spells; of an undefined code it takes any value. -/
def recordPlan (r : PlanRecord) : Plan where
  kind := (Kind.ofCode r.kind).getD .levelTime
  lineA := (lineOf r.lineA).getD 0
  invertA := recordInvertA r
  lineB := if r.lineB == 0xFF then none else lineOf r.lineB
  invertB := recordInvertB r
  window := r.window
  span := r.span
  maxWindows := r.maxWindows
  minWindows := r.minWindows
  qualDepth := r.qualDepth.toNat
  tolKind := recordTolKind r
  tol := r.tol
  onSettle := (OnSettle.ofCode r.onSettle).getD .stop
  reportSelect := (ReportSelect.ofCode r.reportSelect).getD .every
  quota := r.quota.toNat
  lossPolicy := (LossPolicy.ofCode r.lossPolicy).getD .count
  edgeCount := r.edgeCount.toNat

theorem recordTolKind_rel (r : PlanRecord) : (recordTolKind r == .rel) = r.flags.getLsbD 2 := by
  unfold recordTolKind
  cases r.flags.getLsbD 2 <;> rfl

theorem recordTolKind_abs (r : PlanRecord) : (recordTolKind r == .abs) = !r.flags.getLsbD 2 := by
  unfold recordTolKind
  cases r.flags.getLsbD 2 <;> rfl

/-- Validation is the walk through R21's table. -/
theorem validate_eq_checked (r : PlanRecord) : validate r = checked (paramChecks r) (.ok (recordPlan r)) := by
  unfold validate paramChecks; dsimp only
  rw [← Kind.ofCode_isNone, ← lineOf_isNone, ← lineOf_isNone, ← OnSettle.ofCode_isNone, ← ReportSelect.ofCode_isNone,
    ← LossPolicy.ofCode_isNone]
  cases hk : Kind.ofCode r.kind with
  | none => exact checked_fails.symm
  | some k =>
    rw [Option.isNone_some, checked_passes, ← Kind.code_of_ofCode hk, k.code_edgeDefined, k.code_counting, k.code_signed,
      k.code_dropout, k.code_span]; dsimp only
    cases ha : lineOf r.lineA with
    | none => exact checked_fails.symm
    | some a =>
      rw [Option.isNone_some, checked_passes, recordTolKind_rel, recordTolKind_abs]; dsimp only
      iterate 12 refine bool_ite_eq_checked ?_
      cases ho : OnSettle.ofCode r.onSettle with
      | none => exact checked_fails.symm
      | some onSettle =>
        rw [Option.isNone_some, checked_passes]; dsimp only
        cases hs : ReportSelect.ofCode r.reportSelect with
        | none => exact checked_fails.symm
        | some select =>
          rw [Option.isNone_some, checked_passes]; dsimp only
          refine bool_ite_eq_checked ?_
          cases hl : LossPolicy.ofCode r.lossPolicy with
          | none => exact checked_fails.symm
          | some loss =>
            rw [Option.isNone_some, checked_passes]; dsimp only
            refine ite_eq_checked (bool_ite_eq_checked ?_)
            rw [checked_nil, recordPlan, hk, ha, ho, hs, hl]; rfl

/-! ### The record of an accepted plan (R191, R194) -/

/-- The three defined bits of a flag byte are what is left of it with its reserved bits 0. -/
theorem flagByte_low_bits (b : Byte) : BitVec.ofNat 8 (flagByte [b.getLsbD 0, b.getLsbD 1, b.getLsbD 2]) = b &&& 0x07 := by
  apply BitVec.eq_of_toNat_eq
  have h7 : b.toNat &&& 7 = b.toNat % 2 ^ 3 := Nat.and_two_pow_sub_one_eq_mod _ 3
  have hbit (i : Nat) : (b.getLsbD i).toNat = b.toNat / 2 ^ i % 2 := Nat.toNat_testBit _ _
  simp only [flagByte, hbit, BitVec.toNat_ofNat, BitVec.toNat_and]
  rw [show (7 : Byte).toNat = 7 from rfl, h7]
  omega

/-- The codes and line numbers of a record that passes every row of the table all name something. -/
theorem named_of_passes {r : PlanRecord} (h : ∀ c ∈ paramChecks r, c.fails = false) :
    (∃ k, Kind.ofCode r.kind = some k) ∧ (∃ a, lineOf r.lineA = some a) ∧ (r.lineB = 0xFF ∨ ∃ b, lineOf r.lineB = some b) ∧
      (∃ x, OnSettle.ofCode r.onSettle = some x) ∧ (∃ x, ReportSelect.ofCode r.reportSelect = some x) ∧
      ∃ x, LossPolicy.ofCode r.lossPolicy = some x := by
  simp only [paramChecks, List.forall_mem_cons] at h
  obtain ⟨hk, ha, hb, -, -, -, -, -, -, -, -, -, -, -, ho, hs, -, hl, -⟩ := h
  rw [← Kind.ofCode_isNone] at hk
  rw [← lineOf_isNone] at ha hb
  rw [← OnSettle.ofCode_isNone] at ho
  rw [← ReportSelect.ofCode_isNone] at hs
  rw [← LossPolicy.ofCode_isNone] at hl
  simp only [Option.isNone_eq_false_iff, Option.isSome_iff_exists] at hk ha ho hs hl
  refine ⟨hk, ha, ?_, ho, hs, hl⟩
  by_cases h : r.lineB = 0xFF
  · exact .inl h
  · have hff : (r.lineB == 0xFF) = false := beq_eq_false_iff_ne.2 h
    rw [hff] at hb
    exact .inr (Option.isSome_iff_exists.1 (Option.isNone_eq_false_iff.1 hb))

/-- A record that passes every row is the record of the plan it spells, with its reserved bits 0 (R191, R194). -/
theorem recordPlan_record {r : PlanRecord} (h : ∀ c ∈ paramChecks r, c.fails = false) :
    (recordPlan r).record = { r with flags := r.flags &&& 0x07 } := by
  obtain ⟨⟨k, hk⟩, ⟨a, ha⟩, hb, ⟨onSettle, ho⟩, ⟨select, hs⟩, ⟨loss, hl⟩⟩ := named_of_passes h
  have hkind : (recordPlan r).kind.code = r.kind := by
    rw [recordPlan, hk]; exact Kind.code_of_ofCode hk
  have hlineA : BitVec.ofNat 8 (recordPlan r).lineA.val = r.lineA := by
    rw [recordPlan, ha]; exact lineOf_val ha
  have hlineB : (recordPlan r).record.lineB = r.lineB := by
    by_cases hff : r.lineB = 0xFF
    · have h0 : (recordPlan r).lineB = none := if_pos (beq_iff_eq.2 hff)
      rw [Plan.record, h0, hff]
    · obtain ⟨b, hb⟩ := hb.resolve_left hff
      have h0 : (recordPlan r).lineB = some b := (if_neg (by simpa using hff)).trans hb
      rw [Plan.record, h0]; exact lineOf_val hb
  have hflags : (recordPlan r).record.flags = r.flags &&& 0x07 := by
    rw [← flagByte_low_bits, ← recordTolKind_rel]; rfl
  have hsettle : (recordPlan r).onSettle.code = r.onSettle := by
    rw [recordPlan, ho]; exact OnSettle.code_of_ofCode ho
  have hselect : (recordPlan r).reportSelect.code = r.reportSelect := by
    rw [recordPlan, hs]; exact ReportSelect.code_of_ofCode hs
  have hloss : (recordPlan r).lossPolicy.code = r.lossPolicy := by
    rw [recordPlan, hl]; exact LossPolicy.code_of_ofCode hl
  have hbyte (b : Byte) : BitVec.ofNat 8 b.toNat = b := by simp
  exact (PlanRecord.mk.injEq ..).mpr ⟨hkind, hlineA, hlineB, hflags, rfl, rfl, rfl, rfl, hbyte _, rfl, hsettle, hselect, hbyte _, hloss,
    hbyte _⟩

/-- Settles O30: `validate` is the walk through the table (`validate_eq_checked`), which fails at its first failing row alone. -/
theorem validationFollowsTheTable : Obligations.ValidationFollowsTheTable := by
  intro r
  rw [validate_eq_checked, checked]
  cases hrow : (paramChecks r).find? (fun c => c.fails) with
  | some c =>
    refine ⟨fun f => ?_, fun h => ?_, fun pl h => ?_⟩
    · simp [eq_comm]
    · exact absurd (List.find?_some hrow) (by simp [h c (List.mem_of_find?_eq_some hrow)])
    · cases h
  | none =>
    have hpass : ∀ c ∈ paramChecks r, c.fails = false := by simpa using List.find?_eq_none.1 hrow
    refine ⟨fun f => by simp, fun _ => ⟨_, rfl⟩, fun pl h => ?_⟩
    cases h; exact recordPlan_record hpass

end Sys2Proof.Machine
end

section
/-! SUPPORT. The Plan Loader's checks and writes, each said once: the order of the edges (R34), the bound that validation puts on
edge_count (R21), and what a change can leave in the staging buffer. -/

namespace Sys2Proof.Machine

/-! ### The order of the edges (R34) -/

/-- The edge at place `i` of a list, counting from 0, is not greater than its predecessor (R34). -/
def Unordered (es : List Sample32) (i : Nat) : Prop :=
  ∃ x y : Sample32, 1 ≤ i ∧ es[i - 1]? = some x ∧ es[i]? = some y ∧ y.toInt ≤ x.toInt

theorem not_unordered_of_length_le {es : List Sample32} {i : Nat} (h : es.length ≤ i) : ¬ Unordered es i := by
  rintro ⟨x, y, -, -, hy, -⟩
  rw [List.getElem?_eq_none h] at hy
  cases hy

/-- The first new edge is judged against the last one received. -/
theorem unordered_next_iff (received : List Sample32) (e : Sample32) (es : List Sample32) :
    Unordered (received ++ e :: es) received.length ↔ ∃ q, received.getLast? = some q ∧ e.toInt ≤ q.toInt := by
  rcases received.eq_nil_or_concat with rfl | ⟨l, a, rfl⟩
  · simp [Unordered]
  · simp [Unordered]

theorem offendingEdge_of_unordered {received : List Sample32} {e : Sample32} {es : List Sample32}
    (h : Unordered (received ++ e :: es) received.length) (n : Nat) : offendingEdge received.getLast? n (e :: es) = some n := by
  obtain ⟨q, hq, he⟩ := (unordered_next_iff received e es).1 h
  rw [hq, offendingEdge, if_neg]
  rw [BitVec.slt_iff_toInt_lt]; omega

theorem offendingEdge_of_ordered {received : List Sample32} {e : Sample32} {es : List Sample32}
    (h : ¬ Unordered (received ++ e :: es) received.length) (n : Nat) :
    offendingEdge received.getLast? n (e :: es) = offendingEdge (received ++ [e]).getLast? (n + 1) es := by
  rw [List.getLast?_concat]
  cases hq : received.getLast? with
  | none => rfl
  | some q =>
    rw [offendingEdge, if_pos]
    rw [BitVec.slt_iff_toInt_lt]
    exact Int.not_le.1 fun he => h ((unordered_next_iff received e es).2 ⟨q, hq, he⟩)

/-- A chunk is accepted exactly when none of its edges is out of order (R34). -/
theorem offendingEdge_eq_none_iff (received edges : List Sample32) (n : Nat) :
    offendingEdge received.getLast? n edges = none ↔ ∀ i, received.length ≤ i → ¬ Unordered (received ++ edges) i := by
  induction edges generalizing received n with
  | nil => exact ⟨fun _ i hi => not_unordered_of_length_le (by simpa using hi), fun _ => rfl⟩
  | cons e es ih =>
    by_cases h : Unordered (received ++ e :: es) received.length
    · rw [offendingEdge_of_unordered h]
      exact ⟨nofun, fun ha => absurd h (ha _ le_rfl)⟩
    · rw [offendingEdge_of_ordered h, ih, List.append_assoc, List.singleton_append, List.length_append, List.length_singleton]
      refine ⟨fun ha i hi => ?_, fun ha i hi => ha i (by omega)⟩
      rcases hi.eq_or_lt with rfl | hlt
      · exact h
      · exact ha i hlt

/-- The first edge out of order is the offending one, by its number from 1 (R34). -/
theorem offendingEdge_of_first {received edges : List Sample32} {i : Nat} (hi : received.length ≤ i)
    (hu : Unordered (received ++ edges) i) (hf : ∀ j, received.length ≤ j → j < i → ¬ Unordered (received ++ edges) j) :
    offendingEdge received.getLast? (received.length + 1) edges = some (i + 1) := by
  induction edges generalizing received with
  | nil => exact absurd hu (not_unordered_of_length_le (by simpa using hi))
  | cons e es ih =>
    by_cases h : Unordered (received ++ e :: es) received.length
    · have hie : i = received.length := hi.eq_or_lt.elim Eq.symm fun hlt => absurd h (hf _ le_rfl hlt)
      rw [offendingEdge_of_unordered h, hie]
    · have hlt : received.length < i := hi.lt_of_ne fun e => h (e ▸ hu)
      have hl : (received ++ [e]).length = received.length + 1 := by simp
      rw [offendingEdge_of_ordered h, ← hl]
      rw [← List.singleton_append, ← List.append_assoc] at hu hf
      exact ih (by omega) hu fun j hj => hf j (by omega)

/-- Edges that go on from increasing ones without one out of order are increasing with them (R34). -/
theorem increasing_append {received edges : List Sample32} (h : received.Pairwise (fun x y => x.toInt < y.toInt))
    (ho : ∀ i, received.length ≤ i → ¬ Unordered (received ++ edges) i) :
    (received ++ edges).Pairwise (fun x y => x.toInt < y.toInt) := by
  have : Trans (fun x y : Sample32 => x.toInt < y.toInt) (fun x y : Sample32 => x.toInt < y.toInt)
      (fun x y : Sample32 => x.toInt < y.toInt) := ⟨fun h k => h.trans k⟩
  rw [← List.isChain_iff_pairwise, List.isChain_iff_getElem]
  intro i hi
  by_cases hr : i + 1 < received.length
  · rw [List.getElem_append_left (by omega), List.getElem_append_left hr]
    exact List.pairwise_iff_getElem.1 h i (i + 1) (by omega) hr (by omega)
  · refine Int.not_le.1 fun hle => ho (i + 1) (by omega) ⟨_, _, by omega, ?_, ?_, hle⟩
    · exact List.getElem?_eq_getElem _
    · exact List.getElem?_eq_getElem _

/-! ### What validation and the chunks say of edge_count (R21, R32) -/

/-- A plan has at most 31 edges (R21). -/
theorem edgeCount_le_of_validate {r : PlanRecord} {pl : Plan} (h : validate r = .ok pl) : pl.edgeCount ≤ 31 := by
  rw [validate_eq_checked, checked] at h
  split at h
  · cases h
  · rename_i hrows
    cases h
    have hrow : (⟨decide (31 < r.edgeCount.toNat), 17, .edgesRange⟩ : ParamCheck) ∈ paramChecks r := by simp [paramChecks]
    have hp := List.find?_eq_none.1 hrows _ hrow
    simp only [decide_eq_true_eq, Nat.not_lt] at hp
    exact hp

/-! ### What a change can leave in the staging buffer -/

/-- What an elementary change can leave in the staging buffer: the buffer as it was, released, opened (R25), under a new plan (R30), with
one more chunk (R33), or held for the boundary of a RUNNING owner (R37). -/
inductive Restaged (s : State) : Option Staging → Prop
  | kept : Restaged s s.staging
  | released : Restaged s none
  | opened (p : ProbeId) (lease : BitVec 32) (d : Tick) : Restaged s (some { owner := p, stage := .opened lease d })
  | planned (p : ProbeId) (lease : BitVec 32) (d : Tick) {r : PlanRecord} {pl : Plan} (h : validate r = .ok pl) :
    Restaged s (some { owner := p, stage := pl.staged lease d })
  | chunk {p : ProbeId} {lease : BitVec 32} {d : Tick} {pl : Plan} {received : List Sample32} {k : Nat} (renewed : Tick)
      (edges : List Sample32) (h : s.staging = some { owner := p, stage := .edges lease d pl received k })
      (hl : edges.length = pl.chunkEdges k) (ho : offendingEdge received.getLast? (received.length + 1) edges = none) :
    Restaged s (some { owner := p, stage := pl.chunkTaken lease renewed (received ++ edges) k })
  | held {p : ProbeId} {lease : BitVec 32} {d : Tick} {pl : Plan} {es : List Sample32}
      (h : s.staging = some { owner := p, stage := .complete lease d pl es }) (hr : (s.probe p).state = .running) :
    Restaged s (some { owner := p, stage := .pending pl es })

theorem Restaged.of_eq {s : State} {o : Option Staging} (h : o = s.staging) : Restaged s o := h ▸ .kept

theorem stageBegin_restaged (p : ProbeId) (lease : BitVec 32) (s : State) : Restaged s (stageBegin p lease s).state.staging := by
  unfold stageBegin; dsimp only
  split
  · exact .kept
  · split
    · exact .opened p lease _
    · split
      · split
        · exact .kept
        · exact .opened p lease _
      · exact .kept

theorem stageParams_restaged (p : ProbeId) (record : PlanRecord) (s : State) :
    Restaged s (stageParams p record s).state.staging := by
  rcases asOwner_cases p s _ with e | ⟨stage, -, e⟩
  · rw [stageParams, e]; exact .kept
  · rw [stageParams, e]; dsimp only
    split
    · exact .kept
    · split
      · exact .kept
      · rename_i pl hv; exact .planned p _ _ hv

theorem stageEdges_restaged (p : ProbeId) (chunk : Byte) (edges : List Sample32) (s : State) :
    Restaged s (stageEdges p chunk edges s).state.staging := by
  rcases asOwner_cases p s _ with e | ⟨stage, hst, e⟩
  · rw [stageEdges, e]; exact .kept
  · rw [stageEdges, e]
    cases stage with
    | opened | complete | pending => exact .kept
    | edges lease d pl received k =>
      dsimp only
      split
      · exact .kept
      · split
        · exact .kept
        · rename_i hl
          split
          · exact .kept
          · rename_i ho; exact .chunk _ edges hst (not_not.1 hl) ho

theorem lineSet_staging (line profile : Byte) (s : State) : (lineSet line profile s).state.staging = s.staging := by
  unfold lineSet
  split
  · rfl
  · split <;> rfl

theorem profileSet_staging (profile : Byte) (threshold : BitVec 16) (s : State) :
    (profileSet profile threshold s).state.staging = s.staging := by
  unfold profileSet
  split
  · rfl
  · split <;> rfl

theorem countAction_staging (slot : SlotId) (fired : Bool) (s : State) : (countAction slot fired s).staging = s.staging := by
  unfold countAction
  split <;> rfl

theorem coupleAdd_staging (source : ProbeId) (event : Byte) (target : ProbeId) (action : Byte) (s : State) :
    (coupleAdd source event target action s).state.staging = s.staging := by
  unfold coupleAdd
  split
  · rfl
  · split
    · rfl
    · split
      · rfl
      · split
        · rfl
        · split <;> rfl

theorem coupleRemove_staging (slot : Byte) (s : State) : (coupleRemove slot s).state.staging = s.staging := by
  unfold coupleRemove
  split
  · rfl
  · split <;> rfl

theorem BlockChange.restaged {s t : State} (h : BlockChange s t) : Restaged s t.staging := by
  cases h with
  | stageBegin p lease => exact stageBegin_restaged p lease s
  | stageParams p record => exact stageParams_restaged p record s
  | stageEdges p chunk edges => exact stageEdges_restaged p chunk edges s
  | commitPending p pl es l d h hr => exact .held h hr
  | released => exact .released
  | lineSet => exact .of_eq (lineSet_staging _ _ _)
  | profileSet => exact .of_eq (profileSet_staging _ _ _)
  | countAction => exact .of_eq (countAction_staging _ _ _)
  | coupleAdd => exact .of_eq (coupleAdd_staging _ _ _ _ _)
  | coupleRemove => exact .of_eq (coupleRemove_staging _ _)
  | schedule | commands | raised | actions | occasion | mark | filtered | cut | credits | countersCleared | resetPending => exact .kept

@[simp] theorem offerSystem_staging (s : State) (r : Report) : (s.offerSystem r).staging = s.staging := by
  unfold State.offerSystem; split <;> rfl

@[simp] theorem transmitReply_staging (s : State) : (transmitReply s).staging = s.staging := by
  unfold transmitReply; split <;> rfl

theorem ClaimChange.restaged {s t : State} (h : ClaimChange s t) : Restaged s t.staging := by
  cases h with
  | block h => exact h.restaged
  | record | enqueued | lost => exact .kept
  | swapped | installed => exact .released
  | dequeued => exact .of_eq s.dequeue_staging
  | systemReport r => exact .of_eq (offerSystem_staging s r)
  | probeReset p =>
    rw [resetProbe_staging]
    split
    · exact .released
    · exact .kept

theorem Change.restaged {s t : State} (h : Change s t) : Restaged s t.staging := by
  cases h with
  | claim h => exact h.restaged
  | link | replayed | replied | tick => exact .kept
  | transmitted => exact .of_eq (transmitReply_staging s)
  | reset => exact .released

/-- A probe's pending commit is what the buffer holds for it in PENDING (R39). -/
theorem pendingCommit_eq_some_iff {s : State} {p : ProbeId} {pl : Plan} {es : List Sample32} :
    s.pendingCommit p = some (pl, es) ↔ s.staging = some { owner := p, stage := .pending pl es } := by
  unfold State.pendingCommit
  cases hst : s.staging with
  | none => simp
  | some st =>
    obtain ⟨o, stage⟩ := st
    cases stage with
    | opened | edges | complete => simp
    | pending pl' es' =>
      by_cases ho : o = p
      · simp [ho]
      · simp [ho]

end Sys2Proof.Machine
end

section
/-! SUPPORT. O59: each elementary change keeps the staged edges in order and the Qualifier contexts in agreement with their plans. -/

namespace Sys2Proof.Machine

/-! ### The staged edges (R32, R33, R34) -/

/-- The edges of a plan staged completely: as many as it names, at most 31, and increasing (R21, R33, R34). -/
structure EdgesWhole (pl : Plan) (es : List Sample32) : Prop where
  length : es.length = pl.edgeCount
  bound : pl.edgeCount ≤ 31
  increasing : es.Pairwise (fun x y => x.toInt < y.toInt)

theorem stagedEdges_complete_iff (p : ProbeId) (lease : BitVec 32) (d : Tick) (pl : Plan) (es : List Sample32) :
    StagedEdgesInOrder { owner := p, stage := .complete lease d pl es } ↔ EdgesWhole pl es :=
  ⟨fun ⟨hl, hb, hi⟩ => ⟨hl, hb, hi⟩, fun h => ⟨h.length, h.bound, h.increasing⟩⟩

theorem stagedEdges_pending_iff (p : ProbeId) (pl : Plan) (es : List Sample32) :
    StagedEdgesInOrder { owner := p, stage := .pending pl es } ↔ EdgesWhole pl es :=
  ⟨fun ⟨hl, hb, hi⟩ => ⟨hl, hb, hi⟩, fun h => ⟨h.length, h.bound, h.increasing⟩⟩

/-- A newly accepted plan has received no edge yet (R30). -/
theorem stagedEdges_planned (p : ProbeId) (lease : BitVec 32) (d : Tick) {pl : Plan} (h : pl.edgeCount ≤ 31) :
    StagedEdgesInOrder { owner := p, stage := pl.staged lease d } := by
  unfold Plan.staged
  split
  · rename_i h0
    exact (stagedEdges_complete_iff p lease d pl []).2 ⟨h0.symm, h, .nil⟩
  · refine ⟨rfl, ?_, h, .nil⟩
    unfold Plan.chunks; omega

/-- An accepted chunk goes on where the edges received end, and the last one ends the plan's (R32, R33, R34). -/
theorem stagedEdges_chunk {p : ProbeId} {lease : BitVec 32} {d : Tick} {pl : Plan} {received : List Sample32} {k : Nat} (renewed : Tick)
    {edges : List Sample32} (h : StagedEdgesInOrder { owner := p, stage := .edges lease d pl received k })
    (hl : edges.length = pl.chunkEdges k) (ho : offendingEdge received.getLast? (received.length + 1) edges = none) :
    StagedEdgesInOrder { owner := p, stage := pl.chunkTaken lease renewed (received ++ edges) k } := by
  obtain ⟨hr, hk, hb, hi⟩ := h
  have hinc := increasing_append hi ((offendingEdge_eq_none_iff _ _ _).1 ho)
  have hlen : (received ++ edges).length = 8 * k + min 8 (pl.edgeCount - 8 * k) := by
    rw [List.length_append, hr, hl, Plan.chunkEdges]
  unfold Plan.chunks at hk
  unfold Plan.chunkTaken Plan.chunks
  split
  · rename_i hlast
    exact (stagedEdges_complete_iff p lease renewed pl _).2 ⟨by omega, hb, hinc⟩
  · exact ⟨by omega, by unfold Plan.chunks; omega, hb, hinc⟩

/-- Whatever a change leaves in the staging buffer has its edges in order where the buffer before had them so. -/
theorem Restaged.keeps_order {s : State} {o : Option Staging} (h : Restaged s o)
    (hs : ∀ st, s.staging = some st → StagedEdgesInOrder st) : ∀ st, o = some st → StagedEdgesInOrder st := by
  rintro st rfl
  generalize ho : some st = o at h
  cases h with
  | kept => exact hs st ho.symm
  | released => cases ho
  | opened p lease d => cases ho; trivial
  | planned p lease d hv => cases ho; exact stagedEdges_planned p lease d (edgeCount_le_of_validate hv)
  | chunk renewed edges h hl hi => cases ho; exact stagedEdges_chunk renewed (hs _ h) hl hi
  | held h => cases ho; exact (stagedEdges_pending_iff _ _ _).2 ((stagedEdges_complete_iff _ _ _ _ _).1 (hs _ h))

/-- A commit installs edges that were staged completely (R35, R39). -/
theorem edgesWhole_of_holdsCommit {s : State} {p : ProbeId} {pl : Plan} {es : List Sample32}
    (hs : ∀ st, s.staging = some st → StagedEdgesInOrder st) (h : s.holdsCommit p pl es) : EdgesWhole pl es := by
  rcases h with h | ⟨l, d, h⟩
  · exact (stagedEdges_pending_iff p pl es).1 (hs _ (pendingCommit_eq_some_iff.1 h))
  · exact (stagedEdges_complete_iff p l d pl es).1 (hs _ h)

/-! ### The Qualifier contexts (R107, R108, R119) -/

/-- A histogram is there exactly when edge_count is above 0, with the plan's edges and one bin more (R107, R119). -/
def HistogramFits (pl : Plan) : Option Histogram → Prop
  | none => pl.edgeCount = 0
  | some h => h.edges.length = pl.edgeCount ∧ 0 < pl.edgeCount ∧ h.bins.length = pl.edgeCount + 1 ∧
      h.edges.Pairwise (fun x y => x.toInt < y.toInt)

theorem contextFits_iff_of_plan {pr : Probe} {pl : Plan} (h : pr.plan = some pl) :
    ContextFitsPlan pr ↔ pr.qual.history.length ≤ pl.qualDepth ∧ HistogramFits pl pr.qual.histogram := by
  unfold ContextFitsPlan
  rw [h]; exact Iff.rfl

theorem contextFits_iff_of_no_plan {pr : Probe} (h : pr.plan = none) :
    ContextFitsPlan pr ↔ pr.qual.history = [] ∧ pr.qual.settled = false ∧ pr.qual.histogram = none := by
  unfold ContextFitsPlan
  rw [h]

/-- Whether a context fits is a matter of the plan and the context. -/
theorem ContextFitsPlan.congr {a b : Probe} (h : ContextFitsPlan a) (hp : b.plan = a.plan) (hq : b.qual = a.qual) :
    ContextFitsPlan b := by
  unfold ContextFitsPlan at *
  rw [hp, hq]; exact h

theorem contextFits_reset : ContextFitsPlan .reset := ⟨rfl, rfl, rfl⟩

/-- Counting a sample keeps the edges and the number of bins (R120). -/
theorem HistogramFits.count {pl : Plan} {o : Option Histogram} (h : HistogramFits pl o) (v : Sample32) :
    HistogramFits pl (o.map fun x => x.count v) := by
  cases o with
  | none => exact h
  | some x =>
    obtain ⟨hl, h0, hb, hi⟩ := h
    exact ⟨hl, h0, (List.length_modify ..).trans hb, hi⟩

/-- A cleared histogram has the same edges and as many bins (R125). -/
theorem HistogramFits.clear {pl : Plan} {x : Histogram} (h : HistogramFits pl (some x)) : HistogramFits pl (some x.clear) := by
  obtain ⟨hl, h0, -, hi⟩ := h
  refine ⟨hl, h0, ?_, hi⟩
  rw [← hl]
  exact List.length_replicate

theorem complete_histogram (pl : Plan) (windowsDone : BitVec 24) (v : Sample32) (q : Qualifier) :
    (q.complete pl windowsDone v).qual.histogram = q.histogram.map fun x => x.count v := by
  unfold Qualifier.complete; dsimp only
  split <;> rfl

theorem appendHistory_length (depth : Nat) (h : List Sample32) (v : Sample32) : (appendHistory depth h v).length ≤ depth := by
  rw [appendHistory, List.length_drop]; omega

/-- A completion keeps at most qual_depth samples (R108). -/
theorem complete_history_length {pl : Plan} {q : Qualifier} (h : q.history.length ≤ pl.qualDepth) (windowsDone : BitVec 24)
    (v : Sample32) : (q.complete pl windowsDone v).qual.history.length ≤ pl.qualDepth := by
  unfold Qualifier.complete; dsimp only
  split
  · exact h
  · exact appendHistory_length _ _ _

/-- A run start empties the history and keeps the histogram (R51). -/
theorem contextFits_runStarted {a : Probe} (h : ContextFitsPlan a) (now : Tick) : ContextFitsPlan (a.runStarted now) := by
  cases hp : a.plan with
  | none =>
    obtain ⟨-, -, hg⟩ := (contextFits_iff_of_no_plan hp).1 h
    exact (contextFits_iff_of_no_plan (pr := a.runStarted now) hp).2 ⟨rfl, rfl, hg⟩
  | some pl =>
    obtain ⟨-, hg⟩ := (contextFits_iff_of_plan hp).1 h
    exact (contextFits_iff_of_plan (pr := a.runStarted now) hp).2 ⟨Nat.zero_le _, hg⟩

theorem contextFits_formWindow {a : Probe} {pl : Plan} (h : ContextFitsPlan a) (hp : a.plan = some pl) :
    ContextFitsPlan (a.formWindow pl).probe := by
  obtain ⟨hh, hg⟩ := (contextFits_iff_of_plan hp).1 h
  refine (contextFits_iff_of_plan (pr := (a.formWindow pl).probe) hp).2 ⟨complete_history_length hh _ _, ?_⟩
  exact (complete_histogram pl _ _ a.qual).symm ▸ hg.count _

/-- An installed plan begins with an empty history, and with a histogram on its own edges (R36, R119). -/
theorem contextFits_installed (a : Probe) {pl : Plan} {es : List Sample32} (h : EdgesWhole pl es) :
    ContextFitsPlan (a.installed pl es) := by
  refine (contextFits_iff_of_plan (pr := a.installed pl es) rfl).2 ⟨Nat.zero_le _, ?_⟩
  unfold Probe.installed; dsimp only
  split
  · assumption
  · exact ⟨h.length, by omega, by rw [← h.length]; exact List.length_replicate, h.increasing⟩

/-- A cleared histogram is one that was there, so the probe has a plan (R125). -/
theorem contextFits_histCleared {a : Probe} {x : Histogram} (h : ContextFitsPlan a) (hx : a.qual.histogram = some x) :
    ContextFitsPlan { a with qual := { a.qual with histogram := some x.clear } } := by
  obtain hp | ⟨pl, hp⟩ := Option.eq_none_or_eq_some a.plan
  · obtain ⟨-, -, hg⟩ := (contextFits_iff_of_no_plan hp).1 h
    cases hx.symm.trans hg
  · obtain ⟨hh, hg⟩ := (contextFits_iff_of_plan hp).1 h
    rw [hx] at hg
    exact (contextFits_iff_of_plan (pl := pl) (by exact hp)).2 ⟨hh, hg.clear⟩

theorem RecordChange.keeps_context {now : Tick} {a b : Probe} (h : RecordChange now a b) (ha : ContextFitsPlan a) :
    ContextFitsPlan b := by
  cases h with
  | working h => exact ha.congr h.plan h.qual
  | formed pl _ hp => exact contextFits_formWindow ha hp
  | started => exact contextFits_runStarted ha now
  | ended | armed | rescheduled | waitCancelled => exact ha.congr rfl rfl
  | histCleared x hx => exact contextFits_histCleared ha hx

theorem SameButCounters.qual {a b : Probe} (h : SameButCounters a b) : b.qual = a.qual := by rw [← h]

/-- Writing a record whose context fits leaves every context fitting. -/
theorem ContextFitsPlan.setProbe {s : State} {q : ProbeId} (h : ContextFitsPlan (s.probe q)) {p : ProbeId} {x : Probe}
    (hx : ContextFitsPlan x) : ContextFitsPlan ((s.setProbe p x).probe q) := by
  rw [State.probe_setProbe]
  split
  · exact hx
  · exact h

/-- The staged edges are in order, and every context fits its plan. -/
structure PlansFit (s : State) : Prop where
  staged : ∀ st, s.staging = some st → StagedEdgesInOrder st
  contexts : ∀ p, ContextFitsPlan (s.probe p)

theorem ClaimChange.keeps_contexts {s t : State} (h : ClaimChange s t) (hs : PlansFit s) (q : ProbeId) :
    ContextFitsPlan (t.probe q) := by
  have hc := hs.contexts
  cases h with
  | block h => rw [h.frame.probe]; exact hc q
  | record p h => exact (hc q).setProbe (h.keeps_context (hc p))
  | swapped p pl es h => exact (hc q).setProbe (contextFits_installed _ (edgesWhole_of_holdsCommit hs.staged (.inl h)))
  | installed p pl es h =>
    exact (hc q).setProbe ((contextFits_installed (s.probe p) (edgesWhole_of_holdsCommit hs.staged h)).congr rfl rfl)
  | dequeued =>
    have h := (s.dequeue_probe q).counters
    exact (hc q).congr h.plan h.qual
  | enqueued p body =>
    rw [enqueueReport_probe]
    exact (hc q).setProbe ((hc p).congr rfl rfl)
  | lost p =>
    have hg (r : ProbeId) : ContextFitsPlan ((s.withGenerated p).probe r) := (hc r).setProbe ((hc p).congr rfl rfl)
    exact (hg q).setProbe ((hg p).congr rfl rfl)
  | systemReport r => rw [offerSystem_probe]; exact hc q
  | probeReset p =>
    rw [resetProbe_probe]
    split
    · exact contextFits_reset
    · exact hc q

theorem Change.keeps_contexts {s t : State} (h : Change s t) (hs : PlansFit s) (q : ProbeId) : ContextFitsPlan (t.probe q) := by
  cases h with
  | claim h => exact h.keeps_contexts hs q
  | transmitted => rw [transmitReply_probe]; exact hs.contexts q
  | reset => rw [resetPart_probe]; exact contextFits_reset
  | link | replayed | replied | tick => exact hs.contexts q

theorem Change.keeps_plansFit {s t : State} (h : Change s t) (hs : PlansFit s) : PlansFit t :=
  ⟨h.restaged.keeps_order hs.staged, h.keeps_contexts hs⟩

/-- Settles O59: both halves survive every elementary change together (a commit carries the staged edges into a context), and a step is a
sequence of them. -/
theorem stagedEdgesAndContextsFitTheirPlans : Obligations.StagedEdgesAndContextsFitTheirPlans := by
  intro s t hst hc e
  have h := (step_changes e).keeps (fun _ _ hu h => h.keeps_plansFit hu) (PlansFit.mk hst hc)
  exact ⟨h.staged, h.contexts⟩

end Sys2Proof.Machine
end

section
/-! SUPPORT. O55: a pending commit outlives no run of its owner. The end of a run leaves a pending commit without a RUNNING owner, and the
swap that follows in the same claim takes it out of the buffer; so the invariant is kept by each claim whole, and by every change but
a run's end. -/

namespace Sys2Proof.Machine

/-! ### What a change must keep -/

theorem pendingCommit_isSome_iff {s : State} {p : ProbeId} :
    (s.pendingCommit p).isSome ↔ ∃ pl es, s.staging = some { owner := p, stage := .pending pl es } := by
  simp only [Option.isSome_iff_exists, Prod.exists, pendingCommit_eq_some_iff]

theorem pendingOnlyRunning_of_released {s : State} (h : s.staging = none) : PendingOnlyRunning s := by
  intro p hp
  obtain ⟨pl, es, hst⟩ := pendingCommit_isSome_iff.1 hp
  rw [h] at hst; cases hst

/-- The commit pending after a change was pending before it, or its owner was RUNNING when it was made to wait (R37). -/
theorem Restaged.owner_running {s : State} {o : Option Staging} (h : Restaged s o) (hs : PendingOnlyRunning s) {p : ProbeId}
    {pl : Plan} {es : List Sample32} (ho : o = some { owner := p, stage := .pending pl es }) : (s.probe p).state = .running := by
  cases h with
  | kept => exact hs p (pendingCommit_isSome_iff.2 ⟨pl, es, ho⟩)
  | released => cases ho
  | opened => cases ho
  | planned =>
    unfold Plan.staged at ho
    split at ho <;> cases ho
  | chunk =>
    unfold Plan.chunkTaken at ho
    split at ho <;> cases ho
  | held _ hr => cases ho; exact hr

/-- A change that stops no run keeps the invariant. -/
theorem PendingOnlyRunning.of_restaged {s t : State} (hs : PendingOnlyRunning s) (hr : Restaged s t.staging)
    (hk : ∀ p, (s.probe p).state = .running → (t.probe p).state = .running) : PendingOnlyRunning t := by
  intro p hp
  obtain ⟨pl, es, hst⟩ := pendingCommit_isSome_iff.1 hp
  exact hk p (hr.owner_running hs hst)

theorem BlockChange.keeps_pending {s t : State} (h : BlockChange s t) (hs : PendingOnlyRunning s) : PendingOnlyRunning t :=
  hs.of_restaged h.restaged fun p hp => by rw [h.frame.probe]; exact hp

/-- The buffer is as it was, and every RUNNING probe is still RUNNING. -/
structure RunsKept (s t : State) : Prop where
  staging : t.staging = s.staging
  running : ∀ p, (s.probe p).state = .running → (t.probe p).state = .running

theorem RunsKept.refl (s : State) : RunsKept s s := ⟨rfl, fun _ h => h⟩

theorem RunsKept.trans {a b c : State} (h : RunsKept a b) (k : RunsKept b c) : RunsKept a c :=
  ⟨k.staging.trans h.staging, fun p hp => k.running p (h.running p hp)⟩

theorem RunsKept.of_states {s t : State} (hst : t.staging = s.staging) (h : ∀ p, (t.probe p).state = (s.probe p).state) :
    RunsKept s t :=
  ⟨hst, fun p hp => (h p).trans hp⟩

theorem RunsKept.pending {s t : State} (h : RunsKept s t) (hs : PendingOnlyRunning s) : PendingOnlyRunning t :=
  hs.of_restaged (.of_eq h.staging) h.running

theorem setProbe_runsKept {s : State} {p : ProbeId} {x : Probe} (hx : (s.probe p).state = .running → x.state = .running) :
    RunsKept s (s.setProbe p x) := by
  refine ⟨rfl, fun q hq => ?_⟩
  rw [State.probe_setProbe]
  split
  · rename_i e; exact hx (e ▸ hq)
  · exact hq

theorem working_runsKept {s : State} {p : ProbeId} {x : Probe} (h : SameButWorking (s.probe p) x) : RunsKept s (s.setProbe p x) :=
  setProbe_runsKept h.state.trans

/-! ### The changes that stop no run -/

theorem choose_runsKept (s : State) (n : Nat) : RunsKept s (s.choose n).state := by
  obtain ⟨sch, e⟩ := s.choose_state n
  rw [e]; exact ⟨rfl, fun _ h => h⟩

theorem raceDequeue_runsKept (s : State) : RunsKept s s.raceDequeue :=
  .of_states s.raceDequeue_staging fun p => (s.raceDequeue_probe p).counters.state

theorem generate_runsKept (s : State) (p : ProbeId) (body : ReportBody) : RunsKept s (s.generate p body).state :=
  .of_states (s.generate_staging p body) fun q => (s.generate_probe p body q).state

theorem madeStep_staging (s : State) : (madeStep s).staging = s.staging := by
  rcases madeStep_cases s with ⟨-, e⟩ | ⟨-, pins, sch, e⟩ <;> rw [e]; rfl

theorem takeIn_staging (p : ProbeId) (s : State) : (takeIn p s).staging = s.staging := by
  unfold takeIn
  split
  · exact madeStep_staging s
  · rfl

theorem takeIn_runsKept (p : ProbeId) (s : State) : RunsKept s (takeIn p s) := .of_states (takeIn_staging p s) (takeIn_state p s)

theorem startRun_runsKept (p : ProbeId) (depth : Nat) (s : State) : RunsKept s (startRun p depth s).state := by
  obtain ⟨x, hx, hq⟩ := startRun_probe p depth s
  refine ⟨startRun_staging p depth s, fun q h => ?_⟩
  rw [hq]
  split
  · exact hx.state
  · exact h

theorem standing_runsKept (s : State) (pauses : Bool) : RunsKept s (s.standing pauses).state := choose_runsKept _ _

theorem offerReports_runsKept (pauses : Bool) (p : ProbeId) (bodies : List ReportBody) (lost : Bool) (s : State) :
    RunsKept s (offerReports pauses p bodies lost s).state := by
  induction bodies generalizing lost s with
  | nil => exact .refl _
  | cons b bs ih =>
    unfold offerReports; dsimp only
    split
    · exact standing_runsKept _ _
    · exact (standing_runsKept _ _).trans ((generate_runsKept _ _ _).trans (ih _ _))

/-! ### The end of a run and the swap behind it (R58, R60) -/

/-- Every pending commit but `p`'s has a RUNNING owner: what the end of a run of `p` leaves before the swap. -/
def PendingElsewhereRunning (p : ProbeId) (s : State) : Prop :=
  ∀ q, q ≠ p → (s.pendingCommit q).isSome → (s.probe q).state = .running

theorem PendingOnlyRunning.elsewhere {s : State} (h : PendingOnlyRunning s) (p : ProbeId) : PendingElsewhereRunning p s :=
  fun q _ => h q

/-- Writing the record of `p` says nothing of the others. -/
theorem PendingOnlyRunning.setProbe_elsewhere {s : State} (h : PendingOnlyRunning s) (p : ProbeId) (x : Probe) :
    PendingElsewhereRunning p (s.setProbe p x) := by
  intro q hq hp
  rw [State.probe_setProbe_ne _ _ hq]
  exact h q hp

theorem RunsKept.elsewhere {s t : State} (h : RunsKept s t) {p : ProbeId} (hs : PendingElsewhereRunning p s) :
    PendingElsewhereRunning p t := by
  intro q hq hp
  rw [pendingCommit_isSome_iff, h.staging, ← pendingCommit_isSome_iff] at hp
  exact h.running q (hs q hq hp)

/-- The swap takes `p`'s pending commit out of the buffer (R60). -/
theorem pendingOnlyRunning_swapPending {p : ProbeId} {s : State} (h : PendingElsewhereRunning p s) :
    PendingOnlyRunning (swapPending p s).state := by
  rcases swapPending_cases p s with ⟨hn, e⟩ | ⟨pl, es, -, ⟨-, e⟩ | ⟨-, e⟩⟩ <;> rw [e]
  · intro q hq
    by_cases hqp : q = p
    · have hq' : (s.pendingCommit q).isSome := hq
      rw [hqp, hn] at hq'; cases hq'
    · exact h q hqp hq
  · exact pendingOnlyRunning_of_released (startRun_staging _ _ _)
  · exact pendingOnlyRunning_of_released rfl

theorem endRun_elsewhere {s : State} (h : PendingOnlyRunning s) (p : ProbeId) (pl : Plan) (o : RunOutcome) (byStop : Bool) :
    PendingElsewhereRunning p (endRun p pl o byStop s) := by
  rw [endRun_eq]
  exact (generate_runsKept _ _ _).elsewhere (h.setProbe_elsewhere p _)

theorem pendingOnlyRunning_stopRun {s : State} (h : PendingOnlyRunning s) (p : ProbeId) (o : RunOutcome) (depth : Nat) :
    PendingOnlyRunning (stopRun p o depth s).state := by
  unfold stopRun; dsimp only
  apply pendingOnlyRunning_swapPending
  split
  · exact h.setProbe_elsewhere p _
  · exact endRun_elsewhere h p _ _ _

theorem pendingOnlyRunning_finishWindow {p : ProbeId} {s : State} (h : PendingElsewhereRunning p s) (pl : Plan)
    (result : QualResult) (ended : Bool) : PendingOnlyRunning (finishWindow p pl result ended s) := by
  have hsw := pendingOnlyRunning_swapPending h
  unfold finishWindow; dsimp only
  split
  · exact (working_runsKept (measureAfter_same _ _ _ _ _)).pending hsw
  · exact hsw

theorem pendingOnlyRunning_closeWindow {s : State} (h : PendingOnlyRunning s) (pauses : Bool) (p : ProbeId) (pl : Plan)
    (result : QualResult) (lost : Bool) : PendingOnlyRunning (closeWindow pauses p pl result lost s) := by
  have hst := (standing_runsKept s pauses).pending h
  rcases closeWindow_cases pauses p pl result lost s with ⟨-, e⟩ | ⟨o, -, ⟨-, e⟩ | ⟨-, e⟩⟩ <;> rw [e]
  · exact pendingOnlyRunning_finishWindow (h.elsewhere p) _ _ _
  · exact hst
  · exact pendingOnlyRunning_finishWindow (endRun_elsewhere hst p _ _ _) _ _ _

theorem pendingOnlyRunning_offerAndClose {s : State} (h : PendingOnlyRunning s) (pauses : Bool) (p : ProbeId) (pl : Plan)
    (result : QualResult) (bodies : List ReportBody) (lost : Bool) :
    PendingOnlyRunning (offerAndClose pauses p pl result bodies lost s) := by
  have ho := (offerReports_runsKept pauses p bodies lost s).pending h
  unfold offerAndClose; dsimp only
  split
  · exact ho
  · exact pendingOnlyRunning_closeWindow ho _ _ _ _ _

theorem pendingOnlyRunning_completeWindow {s : State} (h : PendingOnlyRunning s) (p : ProbeId) (pl : Plan) :
    PendingOnlyRunning (completeWindow p pl s) := by
  have hf : RunsKept s (s.setProbe p ((s.probe p).formWindow pl).probe) := setProbe_runsKept fun hr => hr
  exact pendingOnlyRunning_offerAndClose (hf.pending h) _ _ _ _ _ _

theorem pendingOnlyRunning_continueOccasion {s : State} (h : PendingOnlyRunning s) (pauses : Bool) :
    PendingOnlyRunning (continueOccasion pauses s) := by
  unfold continueOccasion
  split
  · exact h
  · dsimp only
    split
    · exact h
    · split
      · exact pendingOnlyRunning_offerAndClose (s := s.setOccasion none) h _ _ _ _ _ _
      · exact h

/-! ### The claims on a probe, and the chains (R65, R134) -/

theorem pendingOnlyRunning_measureTick {s : State} (h : PendingOnlyRunning s) (p : ProbeId) :
    PendingOnlyRunning (measureTick p s) := by
  unfold measureTick
  split
  · exact h
  · rename_i pl _
    have h1 : PendingOnlyRunning ((s.setProbe p (s.accounted p pl).probe).setMark p .made) :=
      (working_runsKept (measureBefore_same _ _ _ _ _)).pending h
    dsimp only
    split
    · exact pendingOnlyRunning_completeWindow h1 p pl
    · exact (working_runsKept (measureAfter_same _ _ _ _ _)).pending h1

theorem pendingOnlyRunning_measurementClaim (p : ProbeId) {s : State} (h : PendingOnlyRunning s) :
    PendingOnlyRunning (measurementClaim p s) := by
  unfold measurementClaim
  split
  · exact pendingOnlyRunning_measureTick h p
  · exact h

theorem pendingOnlyRunning_completionClaim (p : ProbeId) {s : State} (h : PendingOnlyRunning s) :
    PendingOnlyRunning (completionClaim p s) := by
  unfold completionClaim
  split
  · exact pendingOnlyRunning_measureTick h p
  · exact h

theorem pendingOnlyRunning_swapClaim (p : ProbeId) {s : State} (h : PendingOnlyRunning s) :
    PendingOnlyRunning (swapClaim p s) := by
  unfold swapClaim
  split
  · exact h
  · split
    · exact pendingOnlyRunning_swapPending (h.elsewhere p)
    · exact pendingOnlyRunning_completionClaim p h

theorem pendingOnlyRunning_deadlineClaim (p : ProbeId) {s : State} (h : PendingOnlyRunning s) :
    PendingOnlyRunning (deadlineClaim p s) := by
  unfold deadlineClaim
  split
  · exact (startRun_runsKept p 0 s).pending h
  · exact h

theorem pendingOnlyRunning_expireLease {s : State} (h : PendingOnlyRunning s) : PendingOnlyRunning (expireLease s) := by
  unfold expireLease
  split
  · exact h
  · split
    · exact pendingOnlyRunning_of_released (offerSystem_staging _ _)
    · exact h

theorem waitCancelled_runsKept {s : State} {p : ProbeId} (h : (s.probe p).state = .armed) :
    RunsKept s (s.setProbe p (s.probe p).waitCancelled) :=
  setProbe_runsKept fun hr => by rw [h] at hr; cases hr

theorem pendingOnlyRunning_takeAction (p : ProbeId) (a : Action) (depth : Nat) {s : State} (h : PendingOnlyRunning s) :
    PendingOnlyRunning (takeAction p a depth s).effect.state := by
  have hin := (takeIn_runsKept p s).pending h
  rcases takeAction_cases p a depth s with e | ⟨-, -, e⟩ | ⟨-, -, e⟩ | ⟨-, ha, e⟩ | ⟨-, -, pl, -, -, e⟩ <;> rw [e]
  · exact h
  · exact (startRun_runsKept p depth s).pending h
  · exact pendingOnlyRunning_stopRun hin p _ _
  · exact (waitCancelled_runsKept ha).pending h
  · exact (generate_runsKept _ _ _).pending hin

theorem chainKept_pendingOnlyRunning : ChainKept PendingOnlyRunning where
  schedule _ _ h := h
  raised _ _ h := h
  actions _ _ h := h
  action _ p a depth h := pendingOnlyRunning_takeAction p a depth h
  count _ i fired h := (BlockChange.countAction i fired).keeps_pending h
  cut _ _ h := h

theorem pendingOnlyRunning_resume {s : State} (h : PendingOnlyRunning s) : PendingOnlyRunning s.resume := by
  have h1 := pendingOnlyRunning_continueOccasion h true
  unfold State.resume; dsimp only
  split
  · exact h1
  · exact chainKept_pendingOnlyRunning.runChain _ _ h1

theorem pendingOnlyRunning_finish {s : State} (h : PendingOnlyRunning s) : PendingOnlyRunning s.finish :=
  chainKept_pendingOnlyRunning.runChain _ _ (pendingOnlyRunning_continueOccasion h false)

/-! ### The execution of a request (R179) -/

theorem pendingOnlyRunning_withProbe {s : State} (h : PendingOnlyRunning s) {f : ProbeId → Answer}
    (hf : ∀ p, PendingOnlyRunning (f p).state) (b : Byte) : PendingOnlyRunning (withProbe b s f).state := by
  unfold withProbe
  split
  · exact h
  · exact hf _

theorem pendingOnlyRunning_status {s : State} (h : PendingOnlyRunning s) (clear : Byte) :
    PendingOnlyRunning (status clear s).state := by
  unfold status
  split
  · exact h
  · split <;> exact h

theorem pendingOnlyRunning_credit {s : State} (h : PendingOnlyRunning s) (mode n : Byte) :
    PendingOnlyRunning (credit mode n s).state := by
  unfold credit
  split
  · split <;> exact h
  · split <;> exact h

theorem pendingOnlyRunning_stageCommit {s : State} (h : PendingOnlyRunning s) (p : ProbeId) (mode : Byte) :
    PendingOnlyRunning (stageCommit p mode s).state := by
  rcases asOwner_cases p s _ with e | ⟨stage, hst, e⟩
  · rw [stageCommit, e]; exact h
  · rw [stageCommit, e]
    cases stage with
    | opened | edges | pending => exact h
    | complete l d pl es =>
      dsimp only [commitComplete]
      split
      · exact h
      · split
        · exact pendingOnlyRunning_of_released rfl
        · exact pendingOnlyRunning_of_released rfl
        · exact pendingOnlyRunning_of_released rfl
        · exact h
        · rename_i hr
          split
          · exact h
          · split
            · exact h
            · exact (BlockChange.commitPending p pl es l d hst hr).keeps_pending h

theorem pendingOnlyRunning_stageAbort {s : State} (h : PendingOnlyRunning s) (p : ProbeId) :
    PendingOnlyRunning (stageAbort p s).state := by
  rcases asOwner_cases p s _ with e | ⟨stage, -, e⟩ <;> rw [stageAbort, e]
  · exact h
  · exact pendingOnlyRunning_of_released rfl

theorem pendingOnlyRunning_start {s : State} (h : PendingOnlyRunning s) (p : ProbeId) : PendingOnlyRunning (start p s).state := by
  have hs : PendingOnlyRunning (startNow p s).state := (startRun_runsKept p 0 s).pending h
  unfold start
  split
  · exact hs
  · exact hs
  · exact hs
  · exact h
  · exact h

theorem pendingOnlyRunning_startAt {s : State} (h : PendingOnlyRunning s) (p : ProbeId) (t : Tick) :
    PendingOnlyRunning (startAt p t s).state := by
  have hs : PendingOnlyRunning (startNow p s).state := (startRun_runsKept p 0 s).pending h
  have hw (x : Probe) (hn : (s.probe p).state ≠ .running) : PendingOnlyRunning (s.setProbe p x) :=
    (setProbe_runsKept fun hr => absurd hr hn).pending h
  unfold startAt; dsimp only
  split
  · exact h
  · exact h
  · rename_i hp
    split
    · exact hw _ (by rw [hp]; decide)
    · exact hs
  · rename_i hp
    split
    · exact hw _ (by rw [hp]; decide)
    · exact hs
  · rename_i hp
    split
    · exact hw _ (by rw [hp]; decide)
    · exact hs

theorem pendingOnlyRunning_arm {s : State} (h : PendingOnlyRunning s) (p : ProbeId) : PendingOnlyRunning (arm p s).state := by
  have hw (x : Probe) (hn : (s.probe p).state ≠ .running) : PendingOnlyRunning (s.setProbe p x) :=
    (setProbe_runsKept fun hr => absurd hr hn).pending h
  unfold arm; dsimp only
  split
  · rename_i hp; exact hw _ (by rw [hp]; decide)
  · rename_i hp; exact hw _ (by rw [hp]; decide)
  all_goals exact h

theorem pendingOnlyRunning_stop {s : State} (h : PendingOnlyRunning s) (p : ProbeId) : PendingOnlyRunning (stop p s).state := by
  unfold stop; dsimp only
  split
  · rename_i ha; exact (waitCancelled_runsKept ha).pending h
  · exact pendingOnlyRunning_stopRun ((takeIn_runsKept p s).pending h) p .stopped 0
  all_goals exact h

/-- A PROBE_RESET takes a RUNNING owner and the stage it holds away together (R43, R63). -/
theorem pendingOnlyRunning_resetProbe {s : State} (h : PendingOnlyRunning s) (p : ProbeId) :
    PendingOnlyRunning (resetProbe p s) := by
  intro q hq
  obtain ⟨pl, es, hst⟩ := pendingCommit_isSome_iff.1 hq
  rw [resetProbe_staging] at hst
  split at hst
  · cases hst
  · rename_i ho
    rw [hst] at ho
    have hqp : q ≠ p := by simpa using ho
    rw [resetProbe_probe, if_neg hqp]
    exact h q (pendingCommit_isSome_iff.2 ⟨pl, es, hst⟩)

theorem pendingOnlyRunning_snapshot {s : State} (h : PendingOnlyRunning s) (p : ProbeId) :
    PendingOnlyRunning (snapshot p s).state := by
  unfold snapshot; dsimp only
  split
  · exact (takeIn_runsKept p s).pending h
  · exact h

theorem pendingOnlyRunning_histRead {s : State} (h : PendingOnlyRunning s) (p : ProbeId) (half : Byte) :
    PendingOnlyRunning (histRead p half s).state := by
  unfold histRead; dsimp only
  split
  · exact h
  · split
    · exact h
    · split <;> exact h

theorem pendingOnlyRunning_histClear {s : State} (h : PendingOnlyRunning s) (p : ProbeId) :
    PendingOnlyRunning (histClear p s).state := by
  unfold histClear; dsimp only
  split
  · exact h
  · rename_i x _
    have hk : RunsKept s (s.setProbe p { s.probe p with qual := { (s.probe p).qual with histogram := some x.clear } }) :=
      setProbe_runsKept fun hr => hr
    split
    · exact h
    · exact hk.pending h

theorem pendingOnlyRunning_execute (r : Request) {s : State} (h : PendingOnlyRunning s) :
    PendingOnlyRunning (execute r s).state := by
  have on (b : Byte) (f : ProbeId → Answer) (hf : ∀ p, PendingOnlyRunning (f p).state) : PendingOnlyRunning (withProbe b s f).state :=
    pendingOnlyRunning_withProbe h hf b
  cases r with
  | status clear => exact pendingOnlyRunning_status h clear
  | credit mode n => exact pendingOnlyRunning_credit h mode n
  | deviceReset | time | lineRead | coupleList => exact h
  | lineSet line profile => exact (BlockChange.lineSet line profile).keeps_pending h
  | profileSet profile threshold => exact (BlockChange.profileSet profile threshold).keeps_pending h
  | stageBegin b lease => exact on b _ fun p => (BlockChange.stageBegin p lease).keeps_pending h
  | stageParams b record => exact on b _ fun p => (BlockChange.stageParams p record).keeps_pending h
  | stageEdges b chunk edges => exact on b _ fun p => (BlockChange.stageEdges p chunk edges).keeps_pending h
  | stageCommit b mode => exact on b _ fun p => pendingOnlyRunning_stageCommit h p mode
  | stageAbort b => exact on b _ fun p => pendingOnlyRunning_stageAbort h p
  | start b => exact on b _ fun p => pendingOnlyRunning_start h p
  | startAt b t => exact on b _ fun p => pendingOnlyRunning_startAt h p t
  | arm b => exact on b _ fun p => pendingOnlyRunning_arm h p
  | stop b => exact on b _ fun p => pendingOnlyRunning_stop h p
  | probeReset b => exact on b _ fun p => pendingOnlyRunning_resetProbe h p
  | probeRead b => exact on b _ fun p => (takeIn_runsKept p s).pending h
  | snapshot b => exact on b _ fun p => pendingOnlyRunning_snapshot h p
  | histRead b half => exact on b _ fun p => pendingOnlyRunning_histRead h p half
  | histClear b => exact on b _ fun p => pendingOnlyRunning_histClear h p
  | coupleAdd a event b action =>
    exact on a _ fun source => on b _ fun target => (BlockChange.coupleAdd source event target action).keeps_pending h
  | coupleRemove slot => exact (BlockChange.coupleRemove slot).keeps_pending h

theorem pendingOnlyRunning_dispatch (r : Except DispatchFault Request) {s : State} (h : PendingOnlyRunning s) :
    PendingOnlyRunning (dispatch r s).state := by
  unfold dispatch
  split
  · exact h
  · exact h
  · exact pendingOnlyRunning_execute _ h

theorem pendingOnlyRunning_readyFor (r : Except DispatchFault Request) {s : State} (h : PendingOnlyRunning s) :
    PendingOnlyRunning (readyFor r s) := by
  have h1 : PendingOnlyRunning (if betweenOffers r s then s else continueOccasion false s) := by
    split
    · exact h
    · exact pendingOnlyRunning_continueOccasion h false
  unfold readyFor; dsimp only
  split
  · exact chainKept_pendingOnlyRunning.takeActions _ h1
  · exact h1

/-! ### The link and the step (R171, R175) -/

theorem pendingOnlyRunning_goodFrame (kind tag : Byte) (r : Except DispatchFault Request) {s : State} (h : PendingOnlyRunning s) :
    PendingOnlyRunning (goodFrame kind tag r s) := by
  rcases goodFrame_cases kind tag r s with ⟨-, e⟩ | ⟨-, -, e⟩ | ⟨-, -, c, -, -, -, e⟩ | ⟨-, e⟩ <;> rw [e]
  · exact h
  · exact h
  · exact h
  · exact (raceDequeue_runsKept _).pending (pendingOnlyRunning_dispatch r (pendingOnlyRunning_readyFor r (s := s.counted) h))

/-- A delivered byte moves the frame receiver alone, or completes a good frame (R171). -/
theorem takeByte_cases (b : Byte) (s : State) :
    (∃ x, takeByte b s = s.setHli x) ∨ ∃ kind tag r, takeByte b s = goodFrame kind tag r s.toHunt := by
  unfold takeByte
  split
  · split
    · exact .inl ⟨_, rfl⟩
    · exact .inl ⟨s.hli, rfl⟩
  · split
    · exact .inl ⟨_, rfl⟩
    · exact .inl ⟨_, rfl⟩
  · split
    · exact .inl ⟨_, rfl⟩
    · exact .inl ⟨_, rfl⟩
  · exact .inl ⟨_, rfl⟩
  · unfold frameComplete
    split
    · exact .inr ⟨_, _, _, rfl⟩
    · exact .inl ⟨_, rfl⟩

theorem pendingOnlyRunning_characterReceived (b : Byte) {s : State} (h : PendingOnlyRunning s) :
    PendingOnlyRunning (characterReceived b s) := by
  unfold characterReceived
  generalize hu : s.setHli _ = u
  have h1 : PendingOnlyRunning u := hu ▸ h
  rcases takeByte_cases b u with ⟨x, e⟩ | ⟨kind, tag, r, e⟩ <;> rw [e]
  · exact h1
  · exact pendingOnlyRunning_goodFrame kind tag r (s := u.toHunt) h1

theorem pendingOnlyRunning_gapError {s : State} (h : PendingOnlyRunning s) : PendingOnlyRunning (gapError s) := by
  unfold gapError
  split <;> exact h

theorem pendingOnlyRunning_characterDiscarded {s : State} (h : PendingOnlyRunning s) :
    PendingOnlyRunning (characterDiscarded s) := by
  unfold characterDiscarded
  generalize hu : s.setHli _ = u
  exact pendingOnlyRunning_gapError (hu ▸ h)

theorem pendingOnlyRunning_lineBreak {s : State} (h : PendingOnlyRunning s) : PendingOnlyRunning (lineBreak s) := by
  unfold lineBreak
  split <;> exact h

theorem pendingOnlyRunning_endFrame {s : State} (h : PendingOnlyRunning s) : PendingOnlyRunning (endFrame s) := by
  unfold endFrame
  split
  · exact h
  · split <;> exact h

theorem pendingOnlyRunning_transmitReply {s : State} (h : PendingOnlyRunning s) : PendingOnlyRunning (transmitReply s) := by
  unfold transmitReply
  split <;> exact h

theorem pendingOnlyRunning_dequeue {s : State} (h : PendingOnlyRunning s) : PendingOnlyRunning s.dequeue :=
  RunsKept.pending (.of_states s.dequeue_staging fun p => (s.dequeue_probe p).counters.state) h

theorem pendingOnlyRunning_filterStep (pins : BitVec 16) {s : State} (h : PendingOnlyRunning s) :
    PendingOnlyRunning (filterStep pins s) := by
  unfold filterStep
  split <;> exact h

theorem pendingOnlyRunning_done {s t : State} (h : PendingOnlyRunning s) (e : s.done = .next t) : PendingOnlyRunning t := by
  cases e; exact pendingOnlyRunning_resume h

theorem pendingOnlyRunning_probeClaim {claim : State → State} (hc : ∀ {s}, PendingOnlyRunning s → PendingOnlyRunning (claim s))
    {s t : State} (h : PendingOnlyRunning s) (e : s.probeClaim claim = .next t) : PendingOnlyRunning t :=
  pendingOnlyRunning_done (hc (pendingOnlyRunning_continueOccasion h false)) e

theorem pendingOnlyRunning_hostRequest {tag : Byte} {r : Request} {s t : State} (h : PendingOnlyRunning s)
    (e : (hostRequest tag r s).done = .next t) : PendingOnlyRunning t :=
  pendingOnlyRunning_done (pendingOnlyRunning_goodFrame _ _ _ h) e

theorem pendingOnlyRunning_exec {c : Instr} {s t : State} (h : PendingOnlyRunning s) (e : exec c s = .next t) :
    PendingOnlyRunning t := by
  cases c with
  | pinReset rs1 rs0 lrx => cases e; exact pendingOnlyRunning_of_released rfl
  | lineFilterStep pins => exact pendingOnlyRunning_done (pendingOnlyRunning_filterStep pins h) e
  | probeMeasurement p => exact pendingOnlyRunning_probeClaim (pendingOnlyRunning_measurementClaim p) h e
  | windowCompletion p => exact pendingOnlyRunning_probeClaim (pendingOnlyRunning_completionClaim p) h e
  | swap p => exact pendingOnlyRunning_probeClaim (pendingOnlyRunning_swapClaim p) h e
  | armedDeadline p => exact pendingOnlyRunning_probeClaim (pendingOnlyRunning_deadlineClaim p) h e
  | leaseExpiry => exact pendingOnlyRunning_done (pendingOnlyRunning_expireLease h) e
  | characterReceived b => exact pendingOnlyRunning_done (pendingOnlyRunning_characterReceived b h) e
  | gapError => exact pendingOnlyRunning_done (pendingOnlyRunning_gapError h) e
  | lineBreak => exact pendingOnlyRunning_done (pendingOnlyRunning_lineBreak h) e
  | frameAccept kind tag data => exact pendingOnlyRunning_done (pendingOnlyRunning_goodFrame _ _ _ h) e
  | replyTransmit => exact pendingOnlyRunning_done (pendingOnlyRunning_transmitReply h) e
  | reportDequeue =>
    refine pendingOnlyRunning_done ?_ e
    split
    · exact pendingOnlyRunning_dequeue h
    · exact h
  | frameEnd => exact pendingOnlyRunning_done (pendingOnlyRunning_endFrame h) e
  | deviceResetEffect rs1 rs0 lrx =>
    by_cases hs : s.resetReplySent = true
    · cases (execDeviceResetEffect_of_sent hs rs1 rs0 lrx).symm.trans e
      exact pendingOnlyRunning_of_released rfl
    · cases (execDeviceResetEffect_of_not_sent hs rs1 rs0 lrx).symm.trans e
      exact pendingOnlyRunning_resume h
  | timebaseAdvance lrx => cases e; exact pendingOnlyRunning_finish h
  | characterDiscarded => exact pendingOnlyRunning_done (pendingOnlyRunning_characterDiscarded h) e
  | status | deviceReset | credit | time | lineSet | lineRead | profileSet | stageBegin | stageParams | stageEdges | stageCommit
  | stageAbort | start | startAt | arm | stop | probeReset | probeRead | snapshot | histRead | histClear | coupleAdd | coupleRemove
  | coupleList => exact pendingOnlyRunning_hostRequest h e

/-- Settles O55: every command keeps the invariant, since each claim that ends a run makes the swap of its probe before it is over. -/
theorem pendingCommitsNeedARunningOwner : Obligations.PendingCommitsNeedARunningOwner := by
  intro s t h e
  unfold step at e
  split at e
  · cases e; exact h
  · rename_i c rest _
    have h1 : PendingOnlyRunning { s with pending := rest } := h
    exact pendingOnlyRunning_exec h1 e

end Sys2Proof.Machine
end

section
/-! SUPPORT. O25 to O29: the Plan Loader's requests, each check in the order of its table (R24, R25, R30, R33, R35, R42). -/

namespace Sys2Proof.Machine

/-! ### Refusals, and the owner of the stage (R24) -/

/-- An accepted request that is refused leaves the counted frame and its denial (R181). -/
theorem hostRequest_denied {s : State} {tag : Byte} {r : Request} {d : Denial} (h : Accepts s r.kind.code tag)
    (he : execute r s.counted = deny d s.counted) (hl : r.lengthAllowed = true) (ha : ofTable (.ok r) = true → s.actions = []) :
    (hostRequest tag r s).done = .next (s.counted.replied r.kind.code tag (.denied d)) :=
  hostRequest_answered h he hl ha

/-- A request of a length its kind does not allow is refused before any field is read (R179, R193). -/
theorem hostRequest_of_bad_length {s : State} {tag : Byte} {r : Request} (h : Accepts s r.kind.code tag)
    (hl : r.lengthAllowed = false) :
    (hostRequest tag r s).done = .next (s.counted.replied r.kind.code tag (.denied .badLength)) := by
  have hc : r.checkLength = .error .badLength := by rw [Request.checkLength, hl]; rfl
  have hw : readyFor (.error .badLength) s.counted = s.counted := readyFor_of_whole h.whole nofun
  rw [hostRequest, hc, goodFrame_of_admitted h.toAdmitted, hw]
  exact congrArg Host.Outcome.next (repliedRaising_nil _ _ _ _)

theorem stageEdges_lengthAllowed_iff (b chunk : Byte) (edges : List Sample32) :
    (Request.stageEdges b chunk edges).lengthAllowed = true ↔ 1 ≤ edges.length ∧ edges.length ≤ 8 := decide_eq_true_iff

/-- The owner's request goes to its stage (R24). -/
theorem asOwner_of_owner {s : State} {p : ProbeId} {stage : Stage} (h : s.staging = some { owner := p, stage := stage })
    (f : Stage → Answer) : asOwner p s f = f stage := by
  unfold asOwner
  rw [h]; exact if_pos rfl

/-- Any other probe's request is refused with the owner's number, whatever else it carries (R24). -/
theorem asOwner_of_not_owner {s : State} {p : ProbeId} (h : s.staging.map (fun st => st.owner) ≠ some p) (f : Stage → Answer) :
    asOwner p s f = deny (.notStaging (s.staging.map fun st => st.owner)) s := by
  unfold asOwner
  cases hst : s.staging with
  | none => rfl
  | some st =>
    rw [hst] at h
    exact if_neg fun ho => h (congrArg some ho)

/-! ### O25: STAGE_BEGIN (R25) -/

theorem Stage.phase_pending_iff (stage : Stage) : stage.phase = .pending ↔ ∃ pl es, stage = .pending pl es := by
  cases stage <;> simp [Stage.phase]

section
variable {p : ProbeId} {lease : BitVec 32} {s : State} {st : Staging}

/-- A lease of 0 is refused before the buffer is looked at (R25, row 1). -/
theorem stageBegin_of_zero : stageBegin p 0 s = deny (.badValue 2) s := by
  unfold stageBegin
  exact if_pos rfl

theorem stageBegin_of_free (hl : lease ≠ 0) (h : s.staging = none) :
    stageBegin p lease s = answer (.stageBegin (s.leaseDeadline lease))
      (s.setStaging (some { owner := p, stage := .opened lease (s.leaseDeadline lease) })) := by
  unfold stageBegin
  rw [if_neg hl, h]

/-- The owner restarts a stage that is not committed (R25, R26). -/
theorem stageBegin_of_owner (hl : lease ≠ 0) (h : s.staging = some st) (ho : st.owner = p) (hp : st.stage.phase ≠ .pending) :
    stageBegin p lease s = answer (.stageBegin (s.leaseDeadline lease))
      (s.setStaging (some { owner := p, stage := .opened lease (s.leaseDeadline lease) })) := by
  unfold stageBegin
  rw [if_neg hl, h]; dsimp only
  rw [if_pos ho, if_neg hp]

theorem stageBegin_of_pending (hl : lease ≠ 0) (h : s.staging = some st) (ho : st.owner = p) (hp : st.stage.phase = .pending) :
    stageBegin p lease s = deny (.badPhase .pending none) s := by
  unfold stageBegin
  rw [if_neg hl, h]; dsimp only
  rw [if_pos ho, if_pos hp]

theorem stageBegin_of_other (hl : lease ≠ 0) (h : s.staging = some st) (ho : st.owner ≠ p) :
    stageBegin p lease s = deny (.stageBusy st.owner) s := by
  unfold stageBegin
  rw [if_neg hl, h]; dsimp only
  rw [if_neg ho]

end

/-- Settles O25, a row of R25 at a time. -/
theorem stageBeginOpensOrRestarts : Obligations.StageBeginOpensOrRestarts := by
  intro tag b lease p s h hb
  have hexec : execute (.stageBegin b lease) s.counted = stageBegin p lease s.counted := withProbe_of_val hb _ _
  refine ⟨?_, fun hl hst => ?_, fun st hl hst => ⟨fun ho hp => ?_, fun ho hp => ?_, fun ho => ?_⟩⟩
  · rintro rfl
    exact hostRequest_denied (r := .stageBegin b 0) h (hexec.trans stageBegin_of_zero) rfl nofun
  · exact hostRequest_answered (r := .stageBegin b lease) h (hexec.trans (stageBegin_of_free hl hst)) rfl nofun
  · have hn : st.stage.phase ≠ .pending := fun e => by
      obtain ⟨pl, es, e⟩ := st.stage.phase_pending_iff.1 e
      exact hp pl es e
    exact hostRequest_answered (r := .stageBegin b lease) h (hexec.trans (stageBegin_of_owner hl hst ho hn)) rfl nofun
  · have hn : st.stage.phase = .pending := st.stage.phase_pending_iff.2 hp
    exact hostRequest_denied (r := .stageBegin b lease) h (hexec.trans (stageBegin_of_pending hl hst ho hn)) rfl nofun
  · exact hostRequest_denied (r := .stageBegin b lease) h (hexec.trans (stageBegin_of_other hl hst ho)) rfl nofun

/-! ### O26: the owner check, and STAGE_ABORT (R24, R42) -/

/-- Settles O26: the four requests go through `asOwner` first, and STAGE_ABORT makes no other check. -/
theorem onlyTheOwnerFillsAndAborts : Obligations.OnlyTheOwnerFillsAndAborts := by
  refine ⟨?_, fun tag b p stage s h hb hst => ?_⟩
  · rintro tag b chunk mode record edges p s owner hb rfl ho h1 h8
    have hn (f : Stage → Answer) : asOwner p s.counted f = deny (.notStaging (s.staging.map fun st => st.owner)) s.counted :=
      asOwner_of_not_owner (s := s.counted) ho f
    have hl : (Request.stageEdges b chunk edges).lengthAllowed = true := (stageEdges_lengthAllowed_iff _ _ _).2 ⟨h1, h8⟩
    refine ⟨fun h => ?_, fun h => ?_, fun h => ?_, fun h => ?_⟩
    · exact hostRequest_denied (r := .stageParams b record) h ((withProbe_of_val hb _ _).trans (hn _)) rfl nofun
    · exact hostRequest_denied (r := .stageEdges b chunk edges) h ((withProbe_of_val hb _ _).trans (hn _)) hl nofun
    · exact hostRequest_denied (r := .stageCommit b mode) h ((withProbe_of_val hb _ _).trans (hn _)) rfl nofun
    · exact hostRequest_denied (r := .stageAbort b) h ((withProbe_of_val hb _ _).trans (hn _)) rfl nofun
  · exact hostRequest_answered (r := .stageAbort b) h
      ((withProbe_of_val hb _ _).trans (asOwner_of_owner (s := s.counted) hst _)) rfl nofun

/-! ### O27: STAGE_PARAMS (R30, R31) -/

section
variable {p : ProbeId} {record : PlanRecord} {stage : Stage} {s : State} {pl : Plan}

theorem stageParams_of_pending (h : s.staging = some { owner := p, stage := stage }) (hp : stage.phase = .pending) :
    stageParams p record s = deny (.badPhase .pending none) s := by
  rw [stageParams, asOwner_of_owner h, if_pos hp]

theorem stageParams_of_invalid {f : ParamFault} (h : s.staging = some { owner := p, stage := stage })
    (hp : stage.phase ≠ .pending) (hv : validate record = .error f) : stageParams p record s = deny (.param f) s := by
  rw [stageParams, asOwner_of_owner h, if_neg hp, hv]

/-- An accepted record takes the stage to EDGES or COMPLETE and renews the lease (R27, R30). -/
theorem stageParams_of_valid (h : s.staging = some { owner := p, stage := stage }) (hp : stage.phase ≠ .pending)
    (hv : validate record = .ok pl) :
    stageParams p record s =
      answer (.stageParams (pl.staged stage.lease (s.leaseDeadline stage.lease)).phase pl.chunks (s.leaseDeadline stage.lease))
        (s.setStaging (some { owner := p, stage := pl.staged stage.lease (s.leaseDeadline stage.lease) })) := by
  rw [stageParams, asOwner_of_owner h, if_neg hp, hv]

theorem Plan.staged_of_no_edges (h : pl.edgeCount = 0) (lease : BitVec 32) (d : Tick) :
    pl.staged lease d = .complete lease d pl [] :=
  if_pos h

theorem Plan.staged_of_edges (h : pl.edgeCount ≠ 0) (lease : BitVec 32) (d : Tick) : pl.staged lease d = .edges lease d pl [] 0 :=
  if_neg h

theorem Plan.chunks_of_no_edges (h : pl.edgeCount = 0) : pl.chunks = 0 := by rw [Plan.chunks, h]

end

/-- Settles O27: the phase, then validation, then the plan's first phase. -/
theorem stageParamsReplacesThePlan : Obligations.StageParamsReplacesThePlan := by
  intro tag b record p stage s h hb hst
  have hexec : execute (.stageParams b record) s.counted = stageParams p record s.counted := withProbe_of_val hb _ _
  have hst' : s.counted.staging = some { owner := p, stage := stage } := hst
  refine ⟨fun hp => ?_, fun hp f hv => ?_, fun hp pl hv => ?_⟩
  · exact hostRequest_denied (r := .stageParams b record) h (hexec.trans (stageParams_of_pending hst' hp)) rfl nofun
  · exact hostRequest_denied (r := .stageParams b record) h (hexec.trans (stageParams_of_invalid hst' hp hv)) rfl nofun
  · have he := hexec.trans (stageParams_of_valid hst' hp hv)
    refine ⟨fun h0 => ?_, fun h0 => ?_⟩
    · rw [Plan.staged_of_no_edges h0, Plan.chunks_of_no_edges h0] at he
      exact hostRequest_answered (r := .stageParams b record) h he rfl nofun
    · rw [Plan.staged_of_edges h0] at he
      exact hostRequest_answered (r := .stageParams b record) h he rfl nofun

/-! ### O28: STAGE_EDGES (R33, R34) -/

section
variable {p : ProbeId} {chunk : Byte} {edges : List Sample32} {s : State} {lease : BitVec 32} {d : Tick} {pl : Plan}
  {received : List Sample32} {k : Nat}

theorem stageEdges_of_other_phase {stage : Stage} (h : s.staging = some { owner := p, stage := stage }) (hp : stage.phase ≠ .edges) :
    stageEdges p chunk edges s = deny (.badPhase stage.phase none) s := by
  rw [stageEdges, asOwner_of_owner h]
  cases stage with
  | opened | complete | pending => rfl
  | edges => exact absurd rfl hp

theorem stageEdges_of_other_chunk (h : s.staging = some { owner := p, stage := .edges lease d pl received k }) (hc : chunk.toNat ≠ k) :
    stageEdges p chunk edges s = deny (.badPhase .edges (some k)) s := by
  rw [stageEdges, asOwner_of_owner h]
  exact if_pos hc

theorem stageEdges_of_other_length (h : s.staging = some { owner := p, stage := .edges lease d pl received k })
    (hc : chunk.toNat = k) (hl : edges.length ≠ pl.chunkEdges k) : stageEdges p chunk edges s = deny .badLength s := by
  rw [stageEdges, asOwner_of_owner h]; dsimp only
  rw [if_neg (not_not.2 hc), if_pos hl]

theorem stageEdges_of_offending (h : s.staging = some { owner := p, stage := .edges lease d pl received k })
    (hc : chunk.toNat = k) (hl : edges.length = pl.chunkEdges k) {i : Nat}
    (ho : offendingEdge received.getLast? (received.length + 1) edges = some i) :
    stageEdges p chunk edges s = deny (.edgeOrder i) s := by
  rw [stageEdges, asOwner_of_owner h]; dsimp only
  rw [if_neg (not_not.2 hc), if_neg (not_not.2 hl), ho]

/-- An accepted chunk takes the stage on and renews the lease (R27, R33). -/
theorem stageEdges_of_ordered (h : s.staging = some { owner := p, stage := .edges lease d pl received k }) (hc : chunk.toNat = k)
    (hl : edges.length = pl.chunkEdges k) (ho : offendingEdge received.getLast? (received.length + 1) edges = none) :
    let next := pl.chunkTaken lease (s.leaseDeadline lease) (received ++ edges) k
    stageEdges p chunk edges s = answer (.stageEdges next.phase next.expectedChunk (s.leaseDeadline lease))
      (s.setStaging (some { owner := p, stage := next })) := by
  rw [stageEdges, asOwner_of_owner h]; dsimp only
  rw [if_neg (not_not.2 hc), if_neg (not_not.2 hl), ho]

theorem Plan.chunkTaken_of_last
    (h : k + 1 = pl.chunks) : pl.chunkTaken lease d received k = .complete lease d pl received := if_pos h 
theorem Plan.chunkTaken_of_not_last (h : k + 1 ≠ pl.chunks) :
    pl.chunkTaken lease d received k = .edges lease d pl received (k + 1) :=
  if_neg h

end

/-- Settles O28: length of the frame, phase, chunk number, length of the chunk, and then the order of its edges, whose verdict
`offendingEdge_of_first` and `offendingEdge_eq_none_iff` give. -/
theorem stageEdgesTakesTheExpectedChunk : Obligations.StageEdgesTakesTheExpectedChunk := by
  intro tag b chunk edges p s h hb
  have hexec : execute (.stageEdges b chunk edges) s.counted = stageEdges p chunk edges s.counted := withProbe_of_val hb _ _
  refine ⟨fun hl => ?_, fun h1 h8 => ?_⟩
  · refine hostRequest_of_bad_length (r := .stageEdges b chunk edges) h (Bool.eq_false_of_not_eq_true ?_)
    rw [stageEdges_lengthAllowed_iff]; omega
  have hl : (Request.stageEdges b chunk edges).lengthAllowed = true := (stageEdges_lengthAllowed_iff _ _ _).2 ⟨h1, h8⟩
  have refused {d : Denial} (he : stageEdges p chunk edges s.counted = deny d s.counted) :=
    hostRequest_denied (r := .stageEdges b chunk edges) h (hexec.trans he) hl nofun
  refine ⟨fun stage hst hp => refused (stageEdges_of_other_phase (s := s.counted) hst hp), fun lease d pl received k hst => ?_⟩
  have hst' : s.counted.staging = some { owner := p, stage := .edges lease d pl received k } := hst
  refine ⟨fun hc => refused (stageEdges_of_other_chunk hst' hc), fun hc hn => refused (stageEdges_of_other_length hst' hc hn),
    fun hc hn => ⟨fun i hi hu hf => ?_, fun hno => ?_⟩⟩
  · exact refused (stageEdges_of_offending hst' hc hn (offendingEdge_of_first hi hu hf))
  · have he := hexec.trans (stageEdges_of_ordered hst' hc hn ((offendingEdge_eq_none_iff _ _ _).2 hno))
    refine ⟨fun hk => ?_, fun hk => ?_⟩
    · rw [Plan.chunkTaken_of_last hk] at he
      exact hostRequest_answered (r := .stageEdges b chunk edges) h he hl nofun
    · rw [Plan.chunkTaken_of_not_last hk] at he
      exact hostRequest_answered (r := .stageEdges b chunk edges) h he hl nofun

/-! ### O29: STAGE_COMMIT (R35, R36, R37) -/

theorem CommitMode.ofCode_isNone (b : Byte) : (CommitMode.ofCode b).isNone = decide (1 < b.toNat) := getElem?_isNone _ _

theorem CommitMode.exists_of_le {b : Byte} (h : b.toNat ≤ 1) : ∃ m, CommitMode.ofCode b = some m := by
  rw [← Option.isSome_iff_exists, ← Option.isNone_eq_false_iff, CommitMode.ofCode_isNone, decide_eq_false_iff_not]
  omega

/-- A counting plan with window 0 has no boundary (R14). -/
theorem Plan.continuous_iff (pl : Plan) :
    pl.continuous = true ↔ (pl.kind = .count ∨ pl.kind = .updown ∨ pl.kind = .quad) ∧ pl.window = 0 := by
  rw [Plan.continuous, Bool.and_eq_true, Kind.counting_iff, beq_iff_eq]

section
variable {p : ProbeId} {mode : Byte} {s : State} {lease : BitVec 32} {d : Tick} {pl : Plan} {es : List Sample32}

/-- Only a stage in COMPLETE can be committed (R35, row 1). -/
theorem stageCommit_of_other_phase {stage : Stage} (h : s.staging = some { owner := p, stage := stage })
    (hp : stage.phase ≠ .complete) : stageCommit p mode s = deny (.badPhase stage.phase stage.expectedChunk) s := by
  rw [stageCommit, asOwner_of_owner h]
  cases stage with
  | opened | edges | pending => rfl
  | complete => exact absurd rfl hp

theorem stageCommit_of_complete (h : s.staging = some { owner := p, stage := .complete lease d pl es }) :
    stageCommit p mode s = commitComplete p mode pl es s := by
  rw [stageCommit, asOwner_of_owner h]

theorem commitComplete_of_bad_mode (h : 1 < mode.toNat) : commitComplete p mode pl es s = deny (.badValue 2) s := by
  have hn : CommitMode.ofCode mode = none := by
    rw [← Option.isNone_iff_eq_none, CommitMode.ofCode_isNone]; exact decide_eq_true h
  unfold commitComplete
  rw [hn]

/-- An idle target takes the plan at once in either mode (R36). -/
theorem commitComplete_of_idle (hm : mode.toNat ≤ 1)
    (h : (s.probe p).state = .free ∨ (s.probe p).state = .ready ∨ (s.probe p).state = .done) :
    commitComplete p mode pl es s = answer (.stageCommit .installed ((s.probe p).generation + 1)) (installNow p pl es s) := by
  obtain ⟨m, hm⟩ := CommitMode.exists_of_le hm
  unfold commitComplete; dsimp only
  rw [hm]
  rcases h with h | h | h <;> rw [h]

theorem commitComplete_of_armed (hm : mode.toNat ≤ 1) (h : (s.probe p).state = .armed) :
    commitComplete p mode pl es s = deny (.badState .armed) s := by
  obtain ⟨m, hm⟩ := CommitMode.exists_of_le hm
  unfold commitComplete; dsimp only
  rw [hm, h]

theorem commitComplete_immediate_of_running (h : (s.probe p).state = .running) :
    commitComplete p 0 pl es s = deny (.badState .running) s := by
  unfold commitComplete; dsimp only
  rw [h]; rfl

theorem commitComplete_of_continuous {cur : Plan} (h : (s.probe p).state = .running) (hp : (s.probe p).plan = some cur)
    (hc : cur.continuous = true) : commitComplete p 1 pl es s = deny .noBoundary s := by
  unfold commitComplete; dsimp only
  rw [h, hp]
  exact if_pos hc

/-- A RUNNING target with boundaries to come holds the commit for the next one (R37). -/
theorem commitComplete_of_boundary {cur : Plan} (h : (s.probe p).state = .running) (hp : (s.probe p).plan = some cur)
    (hc : ¬ cur.continuous = true) :
    commitComplete p 1 pl es s = answer (.stageCommit .pending (s.probe p).generation)
      (s.setStaging (some { owner := p, stage := .pending pl es })) := by
  unfold commitComplete; dsimp only
  rw [h, hp]
  exact if_neg hc

end

/-- Settles O29, a row of R35 at a time. -/
theorem stageCommitInstallsOrHolds : Obligations.StageCommitInstallsOrHolds := by
  intro tag b mode p s h hb
  have hexec : execute (.stageCommit b mode) s.counted = stageCommit p mode s.counted := withProbe_of_val hb _ _
  have refused {d : Denial} (he : stageCommit p mode s.counted = deny d s.counted) :=
    hostRequest_denied (r := .stageCommit b mode) h (hexec.trans he) rfl nofun
  refine ⟨fun stage hst hp => refused (stageCommit_of_other_phase (s := s.counted) hst hp), fun lease d pl es hst => ?_⟩
  have hcommit : stageCommit p mode s.counted = commitComplete p mode pl es s.counted := stageCommit_of_complete hst
  have taken {r : Reply} {w : State} (he : commitComplete p mode pl es s.counted = answer r w) :=
    hostRequest_answered (r := .stageCommit b mode) h (hexec.trans (hcommit.trans he)) rfl nofun
  refine ⟨fun hm => refused (hcommit.trans (commitComplete_of_bad_mode hm)), fun hm hi => taken (commitComplete_of_idle hm hi),
    fun hm ha => refused (hcommit.trans (commitComplete_of_armed hm ha)), ?_, ?_⟩
  · rintro rfl hr
    exact refused (hcommit.trans (commitComplete_immediate_of_running hr))
  · rintro cur rfl hr hp
    rw [← Plan.continuous_iff]
    exact ⟨fun hc => refused (hcommit.trans (commitComplete_of_continuous hr hp hc)),
      fun hc => taken (commitComplete_of_boundary hr hp hc)⟩

end Sys2Proof.Machine
end

section
/-! SUPPORT. O31: the expiry of the lease (R28, R152, R164). -/

namespace Sys2Proof.Machine

theorem systemTotal_eq_length_filter (q : ReportQueue) : q.systemTotal = (q.entries.filter (fun r => r.source.isNone)).length :=
  List.countP_eq_length_filter

theorem offerSystem_of_room {s : State} (h : s.rpq.systemTotal < 4) (r : Report) :
    s.offerSystem r = s.setRpq { s.rpq with entries := s.rpq.entries ++ [r] } := if_pos h

theorem offerSystem_of_no_room {s : State} (h : 4 ≤ s.rpq.systemTotal) (r : Report) :
    s.offerSystem r = s.setRpq { s.rpq with systemLost := satInc s.rpq.systemLost } := if_neg (Nat.not_lt.2 h)

/-- At its deadline the lease releases the buffer and is reported (R28, R164). -/
theorem expireLease_of_due {s : State} {st : Staging} (h : s.staging = some st) (hd : st.stage.deadline = some s.timebase) :
    expireLease s =
      (s.setStaging none).offerSystem (.stageExpired s.timebase st.owner st.stage.phase (s.probe st.owner).generation) := by
  unfold expireLease
  rw [h]; exact if_pos hd

theorem expireLease_of_not_due {s : State} (h : ∀ st, s.staging = some st → st.stage.deadline ≠ some s.timebase) :
    expireLease s = s := by
  unfold expireLease
  split
  · rfl
  · rename_i st hst; exact if_neg (h st hst)

/-- Settles O31: the deadline decides whether the lease expires, and the system share whether its report is kept. -/
theorem leaseExpiresAtItsDeadline : Obligations.LeaseExpiresAtItsDeadline := by
  refine ⟨fun s st hst hd => ?_, fun s h => congrArg (fun u : State => Host.Outcome.next u.resume) (expireLease_of_not_due h)⟩
  have hexec : exec .leaseExpiry s = .next (expireLease s).resume := rfl
  rw [hexec, expireLease_of_due hst hd, ← systemTotal_eq_length_filter]
  refine ⟨fun hr => ?_, fun hr => ?_⟩
  · rw [offerSystem_of_room (s := s.setStaging none) hr]; rfl
  · rw [offerSystem_of_no_room (s := s.setStaging none) hr, satInc_eq_ofNat]; rfl

end Sys2Proof.Machine
end

section
/-! SUPPORT. O13 and O16: the run's end by precedence (R56), and the settlement test's table (R110, R114). -/

namespace Sys2Proof.Machine

/-! ### O13: step 6 of a completion (R56) -/

section
variable {pl : Plan} {result : QualResult} {lost : Bool} {windowsDone : BitVec 24}

/-- No loss ends the run: the policy is COUNT, or nothing was lost (R18). -/
theorem not_halted (h : pl.lossPolicy = .count ∨ lost = false) : ¬ (pl.lossPolicy = .halt ∧ lost = true) := by
  rintro ⟨hh, hl⟩
  rcases h with h | h
  · rw [hh] at h; cases h
  · rw [hl] at h; cases h

/-- Settlement does not end the run: it did not come, or the plan goes on (R16). -/
theorem not_settling (h : result ≠ .becameTrue ∨ pl.onSettle = .continue) : ¬ (result = .becameTrue ∧ pl.onSettle = .stop) := by
  rintro ⟨hr, hs⟩
  rcases h with h | h
  · exact h hr
  · rw [hs] at h; cases h

end

/-- Settles O13: each row of R56's table holds where the tests of the rows above it fail. -/
theorem runEndIsDecidedByPrecedence : Obligations.RunEndIsDecidedByPrecedence := by
  intro pl result lost windowsDone
  unfold runEndDecision
  refine ⟨fun hh hl => if_pos ⟨hh, hl⟩, fun hc hr hs => ?_, fun hc hn hm hw => ?_, fun hc hn hl => ?_⟩
  · rw [if_neg (not_halted hc), if_pos ⟨hr, hs⟩]
  · rw [if_neg (not_halted hc), if_neg (not_settling hn), if_pos ⟨hm, hw⟩]
  · rw [if_neg (not_halted hc), if_neg (not_settling hn), if_neg]
    rintro ⟨hm, hw⟩
    exact hl.elim hm fun h => h hw

/-! ### O16: steps 3 and 4 of a completion (R54, R114) -/

/-- Without a settlement test a completion counts into the histogram alone (R110, R120). -/
theorem Qualifier.complete_of_no_depth {pl : Plan} (h : pl.qualDepth = 0) (windowsDone : BitVec 24) (v : Sample32) (q : Qualifier) :
    q.complete pl windowsDone v = { qual := { q with histogram := q.histogram.map fun g => g.count v }, result := .neither } :=
  if_pos h

/-- With one the history is appended, and the test judged on it (R108, R114). -/
theorem Qualifier.complete_of_depth {pl : Plan} (h : pl.qualDepth ≠ 0) (windowsDone : BitVec 24) (v : Sample32) (q : Qualifier) :
    let hist := appendHistory pl.qualDepth q.history v
    let j := judge q.settled (testMade pl hist windowsDone) (historyPasses pl hist)
    q.complete pl windowsDone v =
      { qual := { history := hist, settled := j.settled, histogram := q.histogram.map fun g => g.count v }, result := j.result } :=
  if_neg h

theorem testMade_iff (pl : Plan) (h : List Sample32) (windowsDone : BitVec 24) :
    testMade pl h windowsDone = true ↔ h.length = pl.qualDepth ∧ pl.minWindows.toNat ≤ windowsDone.toNat := decide_eq_true_iff

/-- Settles O16: the row of R114's table is the one `judge` takes on whether the test is made, the flag before and the verdict. -/
theorem settledFlagFollowsTheTest : Obligations.SettledFlagFollowsTheTest := by
  intro pl windowsDone v q r h made passes
  refine ⟨complete_histogram pl windowsDone v q, fun h0 => ?_, fun hd => ?_⟩
  · have e : r = _ := Qualifier.complete_of_no_depth h0 windowsDone v q
    rw [e]; exact ⟨rfl, rfl, rfl⟩
  have e : r = _ := Qualifier.complete_of_depth hd windowsDone v q
  have hmade (hm : made) : testMade pl h windowsDone = true := (testMade_iff _ _ _).2 hm
  have hfails (hp : ¬ passes) : historyPasses pl h = false := Bool.eq_false_of_not_eq_true hp
  rw [e]
  refine ⟨rfl, fun hn => ?_, fun hm hs hp => ?_, fun hm hs hp => ?_, fun hm hs hp => ?_, fun hm hs hp => ?_⟩
  · have hm : testMade pl h windowsDone = false := Bool.eq_false_of_not_eq_true (mt (testMade_iff _ _ _).1 hn)
    dsimp only; rw [hm]; exact ⟨rfl, rfl⟩
  · dsimp only; rw [hmade hm, hs, hfails hp]; exact ⟨rfl, rfl⟩
  · dsimp only; rw [hmade hm, hs, show historyPasses pl h = true from hp]; exact ⟨rfl, rfl⟩
  · dsimp only; rw [hmade hm, hs, show historyPasses pl h = true from hp]; exact ⟨rfl, rfl⟩
  · dsimp only; rw [hmade hm, hs, hfails hp]; exact ⟨rfl, rfl⟩

end Sys2Proof.Machine
end

section
/-! SUPPORT. O19, O20 and O21: START, START AT, ARM, the end of a wait, and the armed deadline (R45 to R49). -/

namespace Sys2Proof.Machine

/-- An accepted request of a kind that raises events leaves its execution's state, reply and events (R175, R180, R198). -/
theorem hostRequest_executed {s : State} {tag : Byte} {r : Request} {a : Answer} (h : Accepts s r.kind.code tag)
    (he : execute r s.counted = a) (hl : r.lengthAllowed = true) (ha : ofTable (.ok r) = true → s.actions = []) :
    (hostRequest tag r s).done = .next (a.state.repliedRaising r.kind.code tag a.reply a.events) := by
  rw [hostRequest_of_accepts r h hl ha, he]

/-! ### START (R45) -/

section
variable {p : ProbeId} {s : State}

theorem start_of_idle (h : (s.probe p).state = .ready ∨ (s.probe p).state = .done ∨ (s.probe p).state = .armed) :
    start p s = startNow p s := by
  unfold start
  rcases h with h | h | h <;> rw [h]

theorem start_of_busy (h : (s.probe p).state = .free ∨ (s.probe p).state = .running) : start p s = denyState p s := by
  unfold start
  rcases h with h | h <;> rw [h]

end

/-- Settles O19: START is `startNow` in three states and a refusal in the other two. -/
theorem startBeginsARunOrRefuses : Obligations.StartBeginsARunOrRefuses := by
  intro tag b p s h hb e
  have hexec : execute (.start b) s.counted = start p s.counted := withProbe_of_val hb _ _
  refine ⟨fun hs => ?_, fun hs => ?_⟩
  · exact hostRequest_denied (r := .start b) h (hexec.trans (start_of_busy (s := s.counted) hs)) rfl nofun
  · have hrun := hostRequest_executed (r := .start b) h (hexec.trans (start_of_idle (s := s.counted) hs)) rfl nofun
    exact hrun

/-! ### START AT (R46, R79) -/

/-- The future test on the ticks as numbers, modulo 2^48 (R79). -/
theorem isFuture_iff (t now : Tick) :
    isFuture t now = true ↔ 1 ≤ (t.toNat + 2 ^ 48 - now.toNat) % 2 ^ 48 ∧ (t.toNat + 2 ^ 48 - now.toNat) % 2 ^ 48 ≤ 2 ^ 47 - 1 := by
  have hn := now.isLt
  have hd : (t - now).toNat = (t.toNat + 2 ^ 48 - now.toNat) % 2 ^ 48 := by
    rw [BitVec.toNat_sub]; congr 1; omega
  rw [isFuture, decide_eq_true_iff, hd]

section
variable {p : ProbeId} {t : Tick} {s : State}

theorem startAt_of_busy (h : (s.probe p).state = .free ∨ (s.probe p).state = .running) : startAt p t s = denyState p s := by
  unfold startAt; dsimp only
  rcases h with h | h <;> rw [h]

/-- A tick that is not in the future starts the run at once (R46). -/
theorem startAt_of_past (h : (s.probe p).state = .ready ∨ (s.probe p).state = .done ∨ (s.probe p).state = .armed)
    (hf : ¬ isFuture t s.timebase = true) : startAt p t s = startNow p s := by
  unfold startAt; dsimp only
  rcases h with h | h | h <;> rw [h] <;> exact if_neg hf

/-- A future tick arms a READY or DONE probe (R46). -/
theorem startAt_of_future {r : RestState} (h : (s.probe p).state = r.toState) (hf : isFuture t s.timebase = true) :
    startAt p t s = answer (.start .armed t (s.probe p).generation) (s.setProbe p ((s.probe p).armedWith r (some t))) := by
  unfold startAt; dsimp only
  rw [h]
  cases r with
  | ready => exact if_pos hf
  | done => exact if_pos hf

/-- A future tick replaces the start time of an ARMED probe (R46). -/
theorem startAt_of_armed (h : (s.probe p).state = .armed) (hf : isFuture t s.timebase = true) :
    startAt p t s = answer (.start .armed t (s.probe p).generation) (s.setProbe p { s.probe p with startAt := some t }) := by
  unfold startAt; dsimp only
  rw [h]; exact if_pos hf

end

/-- Settles O20: the future test (`isFuture_iff`) decides between a wait and a run. -/
theorem startAtArmsForTheFutureOnly : Obligations.StartAtArmsForTheFutureOnly := by
  intro tag b tick p s h hb pr ahead e armed
  have hexec : execute (.startAt b tick) s.counted = startAt p tick s.counted := withProbe_of_val hb _ _
  refine ⟨fun hs => ?_, fun h1 h2 => ?_, fun hn hs => ?_⟩
  · exact hostRequest_denied (r := .startAt b tick) h (hexec.trans (startAt_of_busy (s := s.counted) hs)) rfl nofun
  · have hf : isFuture tick s.counted.timebase = true := (isFuture_iff _ _).2 ⟨h1, h2⟩
    have waits {x : Probe} (he : startAt p tick s.counted = answer (.start .armed tick pr.generation) (s.counted.setProbe p x)) :
        armed x := hostRequest_answered (r := .startAt b tick) h (hexec.trans he) rfl nofun
    exact ⟨fun hs => waits (startAt_of_future (r := .ready) hs hf), fun hs => waits (startAt_of_future (r := .done) hs hf),
      fun hs => waits (startAt_of_armed hs hf)⟩
  · have hf : ¬ isFuture tick s.counted.timebase = true := by
      rw [isFuture_iff, State.counted_timebase]; omega
    have hrun := hostRequest_executed (r := .startAt b tick) h (hexec.trans (startAt_of_past (s := s.counted) hs hf)) rfl nofun
    exact hrun

/-! ### ARM, STOP of a wait, and the armed deadline (R47, R48, R49) -/

section
variable {p : ProbeId} {s : State}

theorem arm_of_rest {r : RestState} (h : (s.probe p).state = r.toState) :
    arm p s = answer (.arm .armed) (s.setProbe p ((s.probe p).armedWith r none)) := by
  unfold arm; dsimp only
  rw [h]
  cases r <;> rfl

theorem arm_of_other (h : (s.probe p).state = .free ∨ (s.probe p).state = .armed ∨ (s.probe p).state = .running) :
    arm p s = denyState p s := by
  unfold arm; dsimp only
  rcases h with h | h | h <;> rw [h]

/-- A cancelled wait leaves the state the probe was armed from (R6, R49). -/
theorem Probe.waitCancelled_of_armedFrom {pr : Probe} {r : RestState} (h : pr.armedFrom = some r) :
    pr.waitCancelled = { pr with state := r.toState, armedFrom := none, startAt := none } := by
  rw [Probe.waitCancelled, Probe.armedFromState, h]; rfl

theorem stop_of_armed {r : RestState} (h : (s.probe p).state = .armed) (hf : (s.probe p).armedFrom = some r) :
    stop p s = answer (.stop r.toState (s.probe p).generation)
      (s.setProbe p { s.probe p with state := r.toState, armedFrom := none, startAt := none }) := by
  unfold stop; dsimp only
  rw [h, Probe.waitCancelled_of_armedFrom hf, Probe.armedFromState, hf]; rfl

theorem stop_of_idle (h : (s.probe p).state = .free ∨ (s.probe p).state = .ready ∨ (s.probe p).state = .done) :
    stop p s = denyState p s := by
  unfold stop; dsimp only
  rcases h with h | h | h <;> rw [h]

theorem deadlineReached_iff :
    s.deadlineReached p = true ↔ (s.probe p).state = .armed ∧ (s.probe p).startAt = some s.timebase := by
  simp [State.deadlineReached]

/-- Where no completion stands, a claim on a probe is made at once. -/
theorem probeClaim_of_whole (h : s.occasion = none) (claim : State → State) : s.probeClaim claim = .next (claim s).resume := by
  rw [State.probeClaim, continueOccasion_of_none h]; rfl

theorem armedDeadline_of_reached (h : s.occasion = none) (hd : s.deadlineReached p = true) :
    exec (.armedDeadline p) s = .next ((startRun p 0 s).state.raise (startRun p 0 s).events).resume := by
  have e : deadlineClaim p s = (startRun p 0 s).raised := if_pos hd
  exact (probeClaim_of_whole h _).trans (congrArg (fun u : State => Host.Outcome.next u.resume) e)

theorem armedDeadline_of_not_reached (h : s.occasion = none) (hd : ¬ s.deadlineReached p = true) :
    exec (.armedDeadline p) s = .next s.resume := by
  have e : deadlineClaim p s = s := if_neg hd
  exact (probeClaim_of_whole h _).trans (congrArg (fun u : State => Host.Outcome.next u.resume) e)

end

/-- Settles O21, request by request, each by the state of its probe. -/
theorem waitsAreArmedCancelledAndReached : Obligations.WaitsAreArmedCancelledAndReached := by
  refine ⟨fun tag b p s h hb => ?_, fun tag b p s h hb => ?_, fun p s h => ⟨fun hs ht => ?_, fun hn => ?_⟩⟩
  · have hexec : execute (.arm b) s.counted = arm p s.counted := withProbe_of_val hb _ _
    refine ⟨fun hs => ?_, fun hs => ?_, fun hs => ?_⟩
    · exact hostRequest_answered (r := .arm b) h (hexec.trans (arm_of_rest (s := s.counted) (r := .ready) hs)) rfl nofun
    · exact hostRequest_answered (r := .arm b) h (hexec.trans (arm_of_rest (s := s.counted) (r := .done) hs)) rfl nofun
    · exact hostRequest_denied (r := .arm b) h (hexec.trans (arm_of_other (s := s.counted) hs)) rfl nofun
  · have hexec : execute (.stop b) s.counted = stop p s.counted := withProbe_of_val hb _ _
    refine ⟨fun hs hf => ?_, fun hs hf => ?_, fun hs => ?_⟩
    · exact hostRequest_answered (r := .stop b) h (hexec.trans (stop_of_armed (s := s.counted) hs hf)) rfl nofun
    · exact hostRequest_answered (r := .stop b) h (hexec.trans (stop_of_armed (s := s.counted) hs hf)) rfl nofun
    · exact hostRequest_denied (r := .stop b) h (hexec.trans (stop_of_idle (s := s.counted) hs)) rfl nofun
  · exact armedDeadline_of_reached h (deadlineReached_iff.2 ⟨hs, ht⟩)
  · refine armedDeadline_of_not_reached h fun hd => ?_
    obtain ⟨hs, ht⟩ := deadlineReached_iff.1 hd
    exact hn.elim (· hs) (· ht)

end Sys2Proof.Machine
end

section
/-! SUPPORT. O46: the four ways in which a good frame ends (R175). -/

namespace Sys2Proof.Machine

section
variable {s : State} {kind tag : Byte}

/-- A frame during a pending reset is counted and discarded (R175, R187). -/
theorem goodFrame_of_resetPending (h : s.hli.resetPending = true) (r : Except DispatchFault Request) :
    goodFrame kind tag r s = s.counted := by
  rcases goodFrame_cases kind tag r s with ⟨-, e⟩ | ⟨hn, -⟩ | ⟨hn, -⟩ | ⟨ha, -⟩
  · exact e
  · rw [h] at hn; cases hn
  · rw [h] at hn; cases hn
  · have hn := ha.noReset
    rw [h] at hn; cases hn

/-- A frame that finds the reply queue full is dropped (R175, R177). -/
theorem goodFrame_of_full (h : s.hli.resetPending = false) (hf : 4 ≤ s.hli.replies.length) (r : Except DispatchFault Request) :
    goodFrame kind tag r s = s.counted.countLink fun c => { c with busyDrop := satInc c.busyDrop } := by
  rcases goodFrame_cases kind tag r s with ⟨hn, -⟩ | ⟨-, -, e⟩ | ⟨-, hn, -⟩ | ⟨ha, -⟩
  · rw [h] at hn; cases hn
  · exact e
  · omega
  · have hn := ha.room
    omega

/-- A frame whose reply is in the cache is replayed (R175, R178). -/
theorem goodFrame_of_cached {e : CacheEntry} (h : s.hli.resetPending = false) (hl : s.hli.replies.length < 4) (ht : tag ≠ 0)
    (he : e ∈ s.hli.cache) (het : e.tag = tag) (hek : e.kind = kind) (hu : ∀ e' ∈ s.hli.cache, e'.tag = tag → e' = e)
    (r : Except DispatchFault Request) : goodFrame kind tag r s = replayReply e s.counted := by
  rcases goodFrame_cases kind tag r s with ⟨hn, -⟩ | ⟨-, hn, -⟩ | ⟨-, -, e', hm, ht', -, hg⟩ | ⟨ha, -⟩
  · rw [h] at hn; cases hn
  · omega
  · rw [hg, hu e' hm ht']
  · exact absurd ⟨het, hek⟩ (ha.fresh.resolve_left ht e he)

end

/-- Settles O46: the four cases of `goodFrame_cases`, each under its own condition. -/
theorem goodFramesEndInOneOfFourWays : Obligations.GoodFramesEndInOneOfFourWays := by
  intro kind tag data s c
  have taken {u : State} (e : goodFrame kind tag (decodeRequest kind data) s = u) :
      exec (.frameAccept kind tag data) s = .next u.resume := congrArg (fun u : State => Host.Outcome.next u.resume) e
  exact ⟨fun h => taken (goodFrame_of_resetPending h _), fun h hf => taken (goodFrame_of_full h hf _),
    fun e h hl ht he het hek hu => taken (goodFrame_of_cached h hl ht he het hek hu _), fun h => taken (goodFrame_of_admitted h _),
    fun h ha => readyFor_of_whole (s := s.counted) h.whole fun _ => ha⟩

end Sys2Proof.Machine
end

section
/-! SUPPORT. O18: the run start, and what the run's first tick contributes (R51, R81). -/

namespace Sys2Proof.Machine

/-! ### The record of a run start, and its first tick by kind -/

theorem runStarted_eq_newRun {pr : Probe} {pl : Plan} (h : pr.plan = some pl) (now : Tick) : pr.runStarted now = newRun pr pl now := by
  have hw : (pr.plan.map (·.window)).getD 0 = pl.window := by rw [h]; rfl
  rw [Probe.runStarted, hw]; rfl

/-- The values of R51 that the first measurement of a run reads. -/
structure FreshRun (pl : Plan) (pr : Probe) : Prop where
  acc : pr.acc = .cleared
  closed : pr.windowOpen = false
  edgeCount : pr.edgeCount = 0
  countdown : pr.countdown = pl.window

theorem newRun_fresh (pr : Probe) (pl : Plan) (now : Tick) : FreshRun pl (newRun pr pl now) := ⟨rfl, rfl, rfl, rfl⟩

/-- Where nothing has accumulated, opening a window sets the mark alone. -/
theorem Probe.openWindow_of_cleared {pr : Probe} (h : pr.acc = .cleared) : pr.openWindow = { pr with windowOpen := true } := by
  rw [Probe.openWindow, ← h]

/-- Before the completion point the first tick of a run changes nothing: no window is open, nothing is counted, and a DROPOUT run stands at
0 with its countdown full (R51, R98). -/
theorem measureBefore_fresh {pl : Plan} {pr : Probe} (h : FreshRun pl pr) (a : View) (now : Tick) :
    (measureBefore pl a true now pr).probe = pr := by
  have htick : pr.tickWindow = pr := by rw [Probe.tickWindow, h.closed]; rfl
  unfold measureBefore
  cases pl.kind with
  | levelTime | highTime => exact htick
  | span => dsimp only; rw [h.closed]; exact htick
  | count | updown | quad => rfl
  | dropout =>
    have hsame : ({ pr with acc := .cleared, countdown := pl.window } : Probe) = pr := by rw [← h.acc, ← h.countdown]
    dsimp only
    unfold Probe.dropoutTick
    cases a.rising
    · rfl
    · exact hsame

/-- After it an opening edge opens the first window, and a counting kind counts (R51, R85, R87, R89, R91). -/
theorem measureAfter_fresh {pl : Plan} {pr : Probe} (h : FreshRun pl pr) (lines : Vector Line 16) :
    measureAfter pl (pl.viewA lines) (pl.viewB lines) false pr = firstTick pl lines pr := by
  have hopen := Probe.openWindow_of_cleared h.acc
  unfold measureAfter firstTick
  cases hk : pl.kind with
  | levelTime | highTime => dsimp only; rw [hopen]
  | span =>
    have hcount : ({ pr with windowOpen := true, edgeCount := 0 } : Probe) = { pr with windowOpen := true } := by rw [← h.edgeCount]
    dsimp only
    rw [hopen, h.closed, Bool.not_false, Bool.and_true, hcount]
  | count | updown | quad | dropout => rfl

theorem firstMeasurement_fresh {pl : Plan} {pr : Probe} (hp : pr.plan = some pl) (h : FreshRun pl pr) (lines : Vector Line 16)
    (now : Tick) : pr.firstMeasurement lines now = firstTick pl lines pr := by
  unfold Probe.firstMeasurement
  rw [hp]; dsimp only
  rw [measureBefore_fresh h, measureAfter_fresh h]

/-! ### Run start (R51; log 13) -/

section
variable {s : State} {p : ProbeId} {pl : Plan}

theorem startRun_before_step (hp : (s.probe p).plan = some pl) (h : s.lfe.stepped = false) (depth : Nat) :
    (startRun p depth s).state = (s.setProbe p (newRun (s.probe p) pl s.timebase)).setMark p .first := by
  unfold startRun; dsimp only
  rw [runStarted_eq_newRun hp, h]; rfl

theorem startRun_after_step (hp : (s.probe p).plan = some pl) (h : s.lfe.stepped = true) (depth : Nat) :
    (startRun p depth s).state =
      (s.setProbe p (firstTick pl s.lfe.lines (newRun (s.probe p) pl s.timebase))).setMark p .made := by
  unfold startRun; dsimp only
  rw [runStarted_eq_newRun hp, if_pos h, firstMeasurement_fresh (pl := pl) (by exact hp) (newRun_fresh _ _ _)]

/-! ### The first tick taken in (R51, R67; log 13) -/

theorem takeIn_of_first (hr : (s.probe p).state = .running) (hm : s.mark p = .first) :
    takeIn p s =
      ((madeStep s).setProbe p ((s.probe p).firstMeasurement (madeStep s).lfe.lines (madeStep s).timebase)).setMark p .made := by
  rw [← madeStep_probe s p]
  exact if_pos ⟨hr, hm⟩

theorem takeIn_of_not_first (h : (s.probe p).state ≠ .running ∨ s.mark p ≠ .first) : takeIn p s = s :=
  if_neg fun ⟨hr, hm⟩ => h.elim (· hr) (· hm)

/-- The claim makes the lines' step on levels that the schedule brings (log 13). -/
theorem madeStep_of_due (h : s.lfe.stepped = false) :
    let c := s.choose 65536
    madeStep s = c.state.setLfe (s.lfe.step (s.lfe.levels ^^^ BitVec.ofNat 16 c.index)) := by
  obtain ⟨sch, e⟩ := s.choose_state 65536
  have hs : (s.setSchedule sch).lfe.stepped = false := h
  unfold madeStep; dsimp only
  rw [e, h, filterStep, hs]; rfl

theorem madeStep_of_made (h : s.lfe.stepped = true) : madeStep s = s := if_pos h

/-- A run's first measurement, made by PROBE_MEASUREMENT once the step is made, completes no window (R51, R81). -/
theorem probeMeasurement_of_first (hp : (s.probe p).plan = some pl) (hf : FreshRun pl (s.probe p))
    (hr : (s.probe p).state = .running) (hm : s.mark p = .first) (ho : s.occasion = none) (hs : s.lfe.stepped = true) :
    exec (.probeMeasurement p) s = .next ((s.setProbe p (firstTick pl s.lfe.lines (s.probe p))).setMark p .made).resume := by
  have hdue : s.measurementDue p = true := by simp [State.measurementDue, hr, hs, hm]
  have hcomplete : s.completionDue p = false := completionDue_eq_false (.inr (.inr (.inl (by rw [hm]; decide))))
  have hbefore : (s.accounted p pl).probe = s.probe p := by
    rw [State.accounted, hm]; exact measureBefore_fresh hf _ _
  have hclaim : measurementClaim p s = (s.setProbe p (firstTick pl s.lfe.lines (s.probe p))).setMark p .made := by
    rw [measurementClaim, if_pos hdue, measureTick]; dsimp only
    rw [hp]; dsimp only
    rw [hcomplete, hbefore, ← measureAfter_fresh hf, State.setProbe_self]
    rfl
  refine (probeClaim_of_whole ho _).trans ?_
  rw [hclaim]

end

/-! ### The levels of the lines as a word (R69) -/

/-- Bit `i` of a byte from flag bits is its place `i`. -/
theorem flagByte_testBit (bs : List Bool) (i : Nat) : (flagByte bs).testBit i = bs.getD i false := by
  induction bs generalizing i with
  | nil => simp [flagByte]
  | cons b bs ih =>
    cases i with
    | zero => cases b <;> simp [flagByte, Nat.testBit_zero]
    | succ i =>
      rw [List.getD_cons_succ, ← ih, flagByte, Nat.testBit_succ]
      congr 1
      have := Bool.toNat_lt b
      omega

theorem LineFrontEnd.levels_getLsbD (l : LineFrontEnd) (i : LineId) : l.levels.getLsbD i.val = (l.lines[i.val]).raw := by
  have hi : i.val < 16 := i.isLt
  rw [LineFrontEnd.levels, BitVec.getLsbD_ofNat, flagByte_testBit]
  simp [hi]

/-- Settles O18: the record by `runStarted_eq_newRun`, and the first tick by `firstMeasurement_fresh`, at the start or taken in later. -/
theorem runStartSetsTheRunRecord : Obligations.RunStartSetsTheRunRecord := by
  refine ⟨fun s p pl depth hp => ⟨rfl, fun h => startRun_before_step hp h depth, fun h => startRun_after_step hp h depth⟩,
    fun s p pl before hb hn hm => ?_, fun s i => s.lfe.levels_getLsbD i, fun s p h => takeIn_of_not_first h⟩
  have hplan : (s.probe p).plan = some pl := by rw [hn]; exact hb
  have hrun : (s.probe p).state = .running := by rw [hn]; rfl
  have hfresh : FreshRun pl (s.probe p) := by rw [hn]; exact newRun_fresh _ _ _
  refine ⟨fun ho hs => probeMeasurement_of_first hplan hfresh hrun hm ho hs, fun hs => ?_, fun hs => ?_⟩
  · rw [takeIn_of_first hrun hm, firstMeasurement_fresh hplan hfresh, madeStep_of_made hs]
  · rw [takeIn_of_first hrun hm, firstMeasurement_fresh hplan hfresh, madeStep_of_due hs]; rfl

end Sys2Proof.Machine
end

section
/-! SUPPORT. O33 and O22: what a target does with an action, and the end of a run by STOP (R50, R58, R135). -/

namespace Sys2Proof.Machine

/-! ### O33: the target's answer to an action, and its count (R50, R135) -/

section
variable {p : ProbeId} {s : State} {depth : Nat}

/-- An action that its target does not take (R135). -/
def missed (s : State) : Acted := { effect := .unchanged s, fired := false }

theorem takeAction_start_of_idle (h : (s.probe p).state = .ready ∨ (s.probe p).state = .done ∨ (s.probe p).state = .armed) :
    takeAction p .start depth s = { effect := startRun p depth s, fired := true } := by
  unfold takeAction; dsimp only
  rcases h with h | h | h <;> rw [h]

theorem takeAction_start_of_busy (h : (s.probe p).state = .free ∨ (s.probe p).state = .running) :
    takeAction p .start depth s = missed s := by
  unfold takeAction; dsimp only
  rcases h with h | h <;> rw [h] <;> rfl

theorem takeAction_stop_of_running (h : (s.probe p).state = .running) :
    takeAction p .stop depth s = { effect := stopRun p .linked depth (takeIn p s), fired := true } := by
  unfold takeAction; dsimp only
  rw [h]

theorem takeAction_stop_of_armed (h : (s.probe p).state = .armed) :
    takeAction p .stop depth s = { effect := .unchanged (s.setProbe p (s.probe p).waitCancelled), fired := true } := by
  unfold takeAction; dsimp only
  rw [h]

theorem takeAction_stop_of_idle (h : (s.probe p).state = .free ∨ (s.probe p).state = .ready ∨ (s.probe p).state = .done) :
    takeAction p .stop depth s = missed s := by
  unfold takeAction; dsimp only
  rcases h with h | h | h <;> rw [h] <;> rfl

theorem takeAction_snapshot_of_counting {pl : Plan} (hp : (s.probe p).plan = some pl) (hr : (s.probe p).state = .running)
    (hk : pl.kind.counting = true) :
    takeAction p .snapshot depth s = { effect := .unchanged (snapshotReport p pl (takeIn p s)), fired := true } := by
  unfold takeAction; dsimp only
  rw [hp]
  exact if_pos ⟨hr, hk⟩

/-- SNAPSHOT is taken by a RUNNING counting probe alone (R50). -/
theorem takeAction_snapshot_missed
    (h : (s.probe p).state ≠ .running ∨ ∃ pl, (s.probe p).plan = some pl ∧ ¬ pl.kind.counting = true) :
    takeAction p .snapshot depth s = missed s := by
  unfold takeAction; dsimp only
  split
  · rfl
  · rename_i pl hp
    refine if_neg fun ⟨hr, hk⟩ => ?_
    rcases h with h | ⟨pl', hp', hn⟩
    · exact h hr
    · cases hp.symm.trans hp'; exact hn hk

end

/-- The kinds that do not count (R14). -/
theorem Kind.not_counting {k : Kind} (h : k = .levelTime ∨ k = .highTime ∨ k = .span ∨ k = .dropout) : ¬ k.counting = true := by
  rcases h with rfl | rfl | rfl | rfl <;> decide

/-- A counter that takes no count keeps its value. -/
theorem ofNat_min_add_zero (x : BitVec 16) : BitVec.ofNat 16 (min (x.toNat + 0) 65535) = x := by
  have hx := x.isLt
  apply BitVec.eq_of_toNat_eq
  rw [BitVec.toNat_ofNat]; omega

/-- Settles O33, an action and a target's state at a time, and then the count of the coupling. -/
theorem actionsFireOrMissByTheTargetsState : Obligations.ActionsFireOrMissByTheTargetsState := by
  refine ⟨fun s p depth => ⟨takeAction_start_of_idle, takeAction_start_of_busy, takeAction_stop_of_running, fun r hs hf => ?_,
    takeAction_stop_of_idle, fun pl hp hr hk => takeAction_snapshot_of_counting hp hr ((Kind.counting_iff _).2 hk),
    fun hn => takeAction_snapshot_missed (.inl hn),
    fun pl hp hk => takeAction_snapshot_missed (.inr ⟨pl, hp, Kind.not_counting hk⟩)⟩, fun s i c fired hc => ?_⟩
  · rw [takeAction_stop_of_armed hs, Probe.waitCancelled_of_armedFrom hf]
    cases r <;> rfl
  · unfold countAction
    rw [hc]
    cases fired with
    | true =>
      dsimp only
      rw [if_pos rfl, if_pos rfl, if_pos rfl, ofNat_min_add_zero, satInc_eq_ofNat]; rfl
    | false =>
      dsimp only
      rw [if_neg Bool.false_ne_true, if_neg Bool.false_ne_true, if_neg Bool.false_ne_true, ofNat_min_add_zero, satInc_eq_ofNat]; rfl

/-! ### O22: the END report of a run ended by STOP (R58) -/

/-- The END report of a STOP shows nothing that a dequeue counts (R58, R196). -/
theorem endReport_byStop_raceDequeue (s : State) (p : ProbeId) (pl : Plan) (o : RunOutcome) :
    endReport pl ((s.probe p).ended o) o true =
      let pr := s.raceDequeue.probe p
      .runEnd { saturated := false, settled := pr.qual.settled, level := false, illegal := pl.kind == .quad && pr.quadErrors != 0 }
        pr.windowsDone o pr.quadErrors pr.lastSample
        (if pl.kind = .count ∨ pl.kind = .updown ∨ pl.kind = .quad then some pr.acc else none) := by
  have hacc (a : Accumulator) : (if pl.kind.counting then some a else none) =
      if pl.kind = .count ∨ pl.kind = .updown ∨ pl.kind = .quad then some a else none :=
    if_congr (Kind.counting_iff _) rfl rfl
  dsimp only
  rw [← hacc, ← s.raceDequeue_probe p]; rfl

section
variable {s : State} {p : ProbeId} {pl : Plan}

/-- The room an END report finds is that after the dequeue that may come before it (R149). -/
theorem ended_hasRoom_iff (hp : (s.probe p).plan = some pl) (o : RunOutcome) :
    ((s.setProbe p ((s.probe p).ended o)).raceDequeue.withGenerated p).hasRoom p = true ↔
      s.raceDequeue.rpq.probeTotal < 60 ∧ s.raceDequeue.rpq.waiting p < pl.quota := by
  have hpu : ((s.raceDequeue.setProbe p ((s.raceDequeue.probe p).ended o)).probe p).plan = some pl := by
    rw [State.probe_setProbe_self]; exact (s.raceDequeue_probe p).counters.plan.trans hp
  rw [raceDequeue_ended]
  exact hasRoom_withGenerated_iff hpu

/-- With room the END report of a STOP is enqueued behind the dequeue that may have come (R58, R147). -/
theorem endRun_byStop_enqueued (hp : (s.probe p).plan = some pl) (o : RunOutcome) (ht : s.raceDequeue.rpq.probeTotal < 60)
    (hq : s.raceDequeue.rpq.waiting p < pl.quota) :
    let u := s.raceDequeue
    endRun p pl o true s = { u with
      probes := u.probes.set p.val { (u.probe p).ended o with generated := (u.probe p).generated + 1 }
      rpq := { u.rpq with
        entries := u.rpq.entries ++
          [.probe p (u.probe p).generation s.timebase s.rpq.lostBefore[p.val] (endReport pl ((s.probe p).ended o) o true)]
        lostBefore := s.rpq.lostBefore.set p.val 0 } } := by
  dsimp only
  rw [endRun_eq, generate_of_room ((ended_hasRoom_iff hp o).2 ⟨ht, hq⟩), raceDequeue_ended, ← s.raceDequeue_keeps.timebase,
    ← raceDequeue_lostBefore s]
  simp [State.withGenerated, State.enqueueReport, State.setProbe, State.setRpq, State.probe, Probe.ended]

/-- Without room it is lost, which happens to an END report of a completion alike (R57, R58, R148). -/
theorem endRun_byStop_lost (hp : (s.probe p).plan = some pl) (o : RunOutcome)
    (h : 60 ≤ s.raceDequeue.rpq.probeTotal ∨ pl.quota ≤ s.raceDequeue.rpq.waiting p) :
    endRun p pl o true s = endRun p pl o false s := by
  have hn : ¬ ((s.setProbe p ((s.probe p).ended o)).raceDequeue.withGenerated p).hasRoom p = true := by
    rw [ended_hasRoom_iff hp]; omega
  rw [endRun_eq, endRun_eq, generate_of_no_room hn, generate_of_no_room hn]

/-! ### O22: the swap behind a run's end (R60, R61) -/

theorem pendingCommit_congr {s t : State} (h : t.staging = s.staging) (p : ProbeId) : t.pendingCommit p = s.pendingCommit p := by
  unfold State.pendingCommit; rw [h]

theorem swapPending_of_none (h : s.pendingCommit p = none) : swapPending p s = .unchanged s := by
  rcases swapPending_cases p s with ⟨-, e⟩ | ⟨new, edges, hc, -⟩
  · exact e
  · rw [h] at hc; cases hc

theorem swapPending_of_idle {new : Plan} {edges : List Sample32} (h : s.pendingCommit p = some (new, edges))
    (hr : (s.probe p).state ≠ .running) :
    swapPending p s =
      { state := (s.setProbe p { replanned (s.probe p) new edges with state := .ready }).setStaging none, events := [] } := by
  rcases swapPending_cases p s with ⟨hc, -⟩ | ⟨new', edges', hc, ⟨hr', -⟩ | ⟨-, e⟩⟩
  · rw [h] at hc; cases hc
  · exact absurd hr' hr
  · rw [h] at hc; cases hc; exact e

theorem swapPending_of_running {new : Plan} {edges : List Sample32} (h : s.pendingCommit p = some (new, edges))
    (hr : (s.probe p).state = .running) :
    swapPending p s = startRun p 0 ((s.setProbe p (replanned (s.probe p) new edges)).setStaging none) := by
  rcases swapPending_cases p s with ⟨hc, -⟩ | ⟨new', edges', hc, ⟨-, e⟩ | ⟨hr', -⟩⟩
  · rw [h] at hc; cases hc
  · rw [h] at hc; cases hc; exact e
  · exact absurd hr hr'

/-- The state right after STOP has ended a run, before the swap of a pending commit (R58). -/
def State.stopped (s : State) (p : ProbeId) (o : RunOutcome) : State :=
  match (s.probe p).plan with
  | none => s.setProbe p ((s.probe p).ended o)
  | some pl => endRun p pl o true s

theorem stopRun_eq (p : ProbeId) (o : RunOutcome) (depth : Nat) (s : State) :
    stopRun p o depth s =
      { state := (swapPending p (s.stopped p o)).state
        events := { source := p, kind := .runEnd, depth := depth } :: (swapPending p (s.stopped p o)).events } := by
  unfold stopRun State.stopped
  cases (s.probe p).plan <;> rfl

theorem stopped_of_plan (hp : (s.probe p).plan = some pl) (o : RunOutcome) : s.stopped p o = endRun p pl o true s := by
  unfold State.stopped; rw [hp]

theorem stopped_staging (s : State) (p : ProbeId) (o : RunOutcome) : (s.stopped p o).staging = s.staging := by
  unfold State.stopped
  split
  · rfl
  · rw [endRun_eq, State.generate_staging]; rfl

/-- A stopped probe is DONE and has the generation it had. -/
theorem stopped_probe (s : State) (p : ProbeId) (o : RunOutcome) : SameButCounters ((s.probe p).ended o) ((s.stopped p o).probe p) := by
  unfold State.stopped
  split
  · rw [State.probe_setProbe_self]; exact .refl _
  · rw [endRun_eq]
    have hg := State.generate_probe (s.setProbe p ((s.probe p).ended o)) p (endReport ‹_› ((s.probe p).ended o) o true) p
    rw [State.probe_setProbe_self] at hg
    exact hg

theorem stopped_not_running (s : State) (p : ProbeId) (o : RunOutcome) : ((s.stopped p o).probe p).state ≠ .running := by
  rw [(stopped_probe s p o).state, Probe.ended_state]; decide

theorem stopRun_of_no_commit (h : s.pendingCommit p = none) (o : RunOutcome) (depth : Nat) :
    stopRun p o depth s = { state := s.stopped p o, events := [{ source := p, kind := .runEnd, depth := depth }] } := by
  rw [stopRun_eq, swapPending_of_none ((pendingCommit_congr (stopped_staging s p o) p).trans h)]; rfl

theorem stopRun_of_commit {new : Plan} {edges : List Sample32} (h : s.pendingCommit p = some (new, edges)) (o : RunOutcome)
    (depth : Nat) :
    stopRun p o depth s =
      { state := ((s.stopped p o).setProbe p { replanned ((s.stopped p o).probe p) new edges with state := .ready }).setStaging none
        events := [{ source := p, kind := .runEnd, depth := depth }] } := by
  rw [stopRun_eq, swapPending_of_idle ((pendingCommit_congr (stopped_staging s p o) p).trans h) (stopped_not_running s p o)]

/-! ### O22: the STOP request (R49, R67, R198) -/

theorem stop_of_running (h : (s.probe p).state = .running) :
    let e := stopRun p .stopped 0 (takeIn p s)
    stop p s = { state := e.state, reply := .stop (e.state.probe p).state (e.state.probe p).generation, events := e.events } := by
  unfold stop; dsimp only
  rw [h]

theorem SameButCounters.generation {a b : Probe} (h : SameButCounters a b) : b.generation = a.generation := by rw [← h]

theorem SameButWorking.generation {a b : Probe} (h : SameButWorking a b) : b.generation = a.generation := by rw [← h]

end

/-- Settles O22: the END report by the room it finds, the swap behind it, and the reply from what the execution leaves. -/
theorem stopEndsARunWithItsReport : Obligations.StopEndsARunWithItsReport := by
  refine ⟨fun s p pl o depth hp => ⟨fun ht hq => ?_, fun hl => ?_⟩, fun tag b p s h hb hr => ?_⟩
  · have hend := endRun_byStop_enqueued hp o ht hq
    rw [endReport_byStop_raceDequeue, ← stopped_of_plan hp] at hend
    refine ⟨fun hc => ?_, fun new edges hc => ?_⟩
    · rw [stopRun_of_no_commit hc, hend]; rfl
    · rw [stopRun_of_commit hc, hend]
      simp [State.setProbe, State.setStaging, State.probe, Probe.ended]
  · have hend := (endRun_byStop_lost hp o hl).trans (endRun_lost hp o hl)
    rw [← stopped_of_plan hp] at hend
    refine ⟨fun hc => ?_, fun new edges hc => ?_⟩
    · rw [stopRun_of_no_commit hc, hend]; rfl
    · rw [stopRun_of_commit hc, hend]
      simp [State.setProbe, State.setStaging, State.probe, Probe.ended]
  · intro e g
    have hrun := hostRequest_executed (r := .stop b) h ((withProbe_of_val hb _ _).trans (stop_of_running (s := s.counted) hr)) rfl nofun
    have hcommit : (takeIn p s.counted).pendingCommit p = s.pendingCommit p := pendingCommit_congr (takeIn_staging p s.counted) p
    have hgen : (((takeIn p s.counted).stopped p .stopped).probe p).generation = g :=
      (stopped_probe _ _ _).generation.trans (takeIn_probe p s.counted p).generation
    refine ⟨fun hc => ?_, fun hc => ?_⟩
    · have hstate : (e.state.probe p).state = .done := by
        rw [show e = _ from stopRun_of_no_commit (hcommit.trans hc) _ _]; exact (stopped_probe _ _ _).state
      have hg : (e.state.probe p).generation = g := by
        rw [show e = _ from stopRun_of_no_commit (hcommit.trans hc) _ _]; exact hgen
      rw [← hstate, ← hg]; exact hrun
    · obtain ⟨⟨new, edges⟩, hc⟩ := Option.ne_none_iff_exists'.1 hc
      have he : e = _ := stopRun_of_commit (hcommit.trans hc) _ _
      have hstate : (e.state.probe p).state = .ready := by
        rw [he, State.setStaging_probe, State.probe_setProbe_self]
      have hg : (e.state.probe p).generation = g + 1 := by
        rw [he, State.setStaging_probe, State.probe_setProbe_self, ← hgen]; rfl
      rw [← hstate, ← hg]; exact hrun

end Sys2Proof.Machine
end

section
/-! SUPPORT. What the operations of the runs do to what waits and to an exhausted schedule, each said once; and the completion that stands
between two offers, where nothing lets it stand. -/

namespace Sys2Proof.Machine

/-! ### What waits is as it was -/

/-- What waits is as it was, and an exhausted schedule stays exhausted. -/
structure WaitsKept (s t : State) : Prop where
  occasion : t.occasion = s.occasion
  raised : t.raised = s.raised
  actions : t.actions = s.actions
  exhausted : s.schedule = [] → t.schedule = []

theorem WaitsKept.refl (s : State) : WaitsKept s s := ⟨rfl, rfl, rfl, id⟩

theorem WaitsKept.trans {a b c : State} (h : WaitsKept a b) (k : WaitsKept b c) : WaitsKept a c :=
  ⟨k.occasion.trans h.occasion, k.raised.trans h.raised, k.actions.trans h.actions, k.exhausted ∘ h.exhausted⟩

theorem choose_waitsKept (s : State) (n : Nat) : WaitsKept s (s.choose n).state := by
  obtain ⟨sch, e⟩ := s.choose_state n
  refine ⟨by rw [e]; rfl, by rw [e]; rfl, by rw [e]; rfl, fun h => ?_⟩
  rw [choose_of_exhausted h]; exact h

theorem dequeue_schedule (s : State) : s.dequeue.schedule = s.schedule := by
  unfold State.dequeue
  split
  · rfl
  · split <;> rfl

theorem dequeue_waitsKept (s : State) : WaitsKept s s.dequeue :=
  ⟨s.dequeue_occasion, s.dequeue_raised, s.dequeue_actions, (dequeue_schedule s).trans⟩

theorem raceDequeue_waitsKept (s : State) : WaitsKept s s.raceDequeue := by
  unfold State.raceDequeue
  split
  · dsimp only
    split
    · exact (choose_waitsKept s 2).trans (dequeue_waitsKept _)
    · exact choose_waitsKept s 2
  · exact .refl s

theorem generate_waitsKept (s : State) (p : ProbeId) (body : ReportBody) : WaitsKept s (s.generate p body).state := by
  refine (raceDequeue_waitsKept s).trans ?_
  rcases s.generate_cases p body with ⟨-, e⟩ | ⟨-, e⟩ <;> rw [e] <;> exact ⟨rfl, rfl, rfl, id⟩

theorem madeStep_waitsKept (s : State) : WaitsKept s (madeStep s) := by
  unfold madeStep
  split
  · exact .refl s
  · refine (choose_waitsKept s 65536).trans ?_
    rcases filterStep_cases (s.lfe.levels ^^^ BitVec.ofNat 16 (s.choose 65536).index) (s.choose 65536).state with ⟨-, e⟩ | ⟨-, e⟩ <;>
      rw [e] <;> exact ⟨rfl, rfl, rfl, id⟩

theorem takeIn_waitsKept (p : ProbeId) (s : State) : WaitsKept s (takeIn p s) := by
  unfold takeIn
  split
  · exact (madeStep_waitsKept s).trans ⟨rfl, rfl, rfl, id⟩
  · exact .refl s

theorem startRun_waitsKept (p : ProbeId) (depth : Nat) (s : State) : WaitsKept s (startRun p depth s).state := by
  unfold startRun; dsimp only
  split <;> exact ⟨rfl, rfl, rfl, id⟩

theorem swapPending_waitsKept (p : ProbeId) (s : State) : WaitsKept s (swapPending p s).state := by
  rcases swapPending_cases p s with ⟨-, e⟩ | ⟨pl, es, -, ⟨-, e⟩ | ⟨-, e⟩⟩ <;> rw [e]
  · exact .refl s
  · exact (⟨rfl, rfl, rfl, id⟩ : WaitsKept s ((s.setProbe p ((s.probe p).installed pl es)).setStaging none)).trans
      (startRun_waitsKept _ _ _)
  · exact ⟨rfl, rfl, rfl, id⟩

theorem endRun_waitsKept (p : ProbeId) (pl : Plan) (o : RunOutcome) (byStop : Bool) (s : State) :
    WaitsKept s (endRun p pl o byStop s) :=
  (⟨rfl, rfl, rfl, id⟩ : WaitsKept s (s.setProbe p ((s.probe p).ended o))).trans (generate_waitsKept _ _ _)

theorem stopped_waitsKept (s : State) (p : ProbeId) (o : RunOutcome) : WaitsKept s (s.stopped p o) := by
  unfold State.stopped
  split
  · exact ⟨rfl, rfl, rfl, id⟩
  · exact endRun_waitsKept _ _ _ _ _

theorem stopRun_waitsKept (p : ProbeId) (o : RunOutcome) (depth : Nat) (s : State) : WaitsKept s (stopRun p o depth s).state := by
  rw [stopRun_eq]
  exact (stopped_waitsKept s p o).trans (swapPending_waitsKept _ _)

theorem takeAction_waitsKept (p : ProbeId) (a : Action) (depth : Nat) (s : State) :
    WaitsKept s (takeAction p a depth s).effect.state := by
  rcases takeAction_cases p a depth s with e | ⟨-, -, e⟩ | ⟨-, -, e⟩ | ⟨-, -, e⟩ | ⟨-, -, pl, -, -, e⟩ <;> rw [e]
  · exact .refl s
  · exact startRun_waitsKept _ _ _
  · exact (takeIn_waitsKept _ _).trans (stopRun_waitsKept _ _ _ _)
  · exact ⟨rfl, rfl, rfl, id⟩
  · exact (takeIn_waitsKept _ _).trans (generate_waitsKept _ _ _)

theorem countAction_waitsKept (i : SlotId) (fired : Bool) (s : State) : WaitsKept s (countAction i fired s) := by
  unfold countAction
  split <;> exact ⟨rfl, rfl, rfl, id⟩

/-! ### The events of an action (R136) -/

/-- The run that a STOP ends raises RUN_END alone: the swap behind it starts no run (R58, R61). -/
theorem stopRun_events (p : ProbeId) (o : RunOutcome) (depth : Nat) (s : State) :
    (stopRun p o depth s).events = [{ source := p, kind := .runEnd, depth := depth }] := by
  cases hc : s.pendingCommit p with
  | none => rw [stopRun_of_no_commit hc]
  | some c => rw [stopRun_of_commit (new := c.1) (edges := c.2) hc]

/-- An action raises at most one event, at its own depth (R136). -/
theorem takeAction_events (p : ProbeId) (a : Action) (depth : Nat) (s : State) :
    (takeAction p a depth s).effect.events = [] ∨
      ∃ kind, (takeAction p a depth s).effect.events = [{ source := p, kind := kind, depth := depth }] := by
  rcases takeAction_cases p a depth s with e | ⟨-, -, e⟩ | ⟨-, -, e⟩ | ⟨-, -, e⟩ | ⟨-, -, pl, -, -, e⟩ <;> rw [e]
  · exact .inl rfl
  · exact .inr ⟨.runStart, rfl⟩
  · exact .inr ⟨.runEnd, stopRun_events _ _ _ _⟩
  · exact .inl rfl
  · exact .inl rfl

/-! ### A completion that does not stand (R53) -/

/-- Nothing lets a completion stand between its offers: the claim is made whole, or the schedule is exhausted (log 8). -/
def NoPause (pauses : Bool) (s : State) : Prop := pauses = false ∨ s.schedule = []

theorem NoPause.kept {pauses : Bool} {s t : State} (h : NoPause pauses s) (k : s.schedule = [] → t.schedule = []) : NoPause pauses t :=
  h.imp_right k

theorem standing_of_noPause {pauses : Bool} {s : State} (h : NoPause pauses s) : s.standing pauses = { index := 0, state := s } := by
  rcases h with rfl | h
  · exact standing_false s
  · exact choose_of_exhausted h _

theorem standing_index_of_noPause {pauses : Bool} {s : State} (h : NoPause pauses s) : (s.standing pauses).index ≠ 1 := by
  rw [standing_of_noPause h]; exact Nat.zero_ne_one

theorem standing_waitsKept (s : State) (pauses : Bool) : WaitsKept s (s.standing pauses).state := choose_waitsKept _ _

theorem offerReports_waitsKept (pauses : Bool) (p : ProbeId) (bodies : List ReportBody) (lost : Bool) (s : State) :
    WaitsKept s (offerReports pauses p bodies lost s).state := by
  induction bodies generalizing lost s with
  | nil => exact .refl s
  | cons b bs ih =>
    have hs := standing_waitsKept s pauses
    by_cases h : (s.standing pauses).index = 1
    · rw [offerReports_cons_stands h]; exact hs
    · rw [offerReports_cons_goes_on h]; exact hs.trans ((generate_waitsKept _ _ _).trans (ih _ _))

theorem offerReports_remaining_of_noPause {pauses : Bool} {s : State} (h : NoPause pauses s) (p : ProbeId) (bodies : List ReportBody)
    (lost : Bool) : (offerReports pauses p bodies lost s).remaining = none := by
  induction bodies generalizing lost s with
  | nil => rfl
  | cons b bs ih =>
    rw [offerReports_cons_goes_on (standing_index_of_noPause h)]
    exact ih (h.kept ((standing_waitsKept s pauses).trans (generate_waitsKept _ _ _)).exhausted) _

theorem finishWindow_occasion (p : ProbeId) (pl : Plan) (result : QualResult) (ended : Bool) (s : State) :
    (finishWindow p pl result ended s).occasion = s.occasion := by
  unfold finishWindow; dsimp only
  split <;> exact (swapPending_waitsKept p s).occasion

theorem finishWindow_exhausted (p : ProbeId) (pl : Plan) (result : QualResult) (ended : Bool) {s : State} (h : s.schedule = []) :
    (finishWindow p pl result ended s).schedule = [] := by
  unfold finishWindow; dsimp only
  split <;> exact (swapPending_waitsKept p s).exhausted h

theorem closeWindow_occasion {pauses : Bool} {s : State} (h : NoPause pauses s) (p : ProbeId) (pl : Plan) (result : QualResult)
    (lost : Bool) : (closeWindow pauses p pl result lost s).occasion = s.occasion := by
  rcases closeWindow_cases pauses p pl result lost s with ⟨-, e⟩ | ⟨o, -, ⟨hi, -⟩ | ⟨-, e⟩⟩
  · rw [e, finishWindow_occasion]
  · exact absurd hi (standing_index_of_noPause h)
  · rw [e, finishWindow_occasion, (endRun_waitsKept _ _ _ _ _).occasion, (standing_waitsKept s pauses).occasion]

theorem closeWindow_exhausted (pauses : Bool) (p : ProbeId) (pl : Plan) (result : QualResult) (lost : Bool) {s : State}
    (h : s.schedule = []) : (closeWindow pauses p pl result lost s).schedule = [] := by
  have hs := (standing_waitsKept s pauses).exhausted h
  rcases closeWindow_cases pauses p pl result lost s with ⟨-, e⟩ | ⟨o, -, ⟨-, e⟩ | ⟨-, e⟩⟩ <;> rw [e]
  · exact finishWindow_exhausted _ _ _ _ h
  · exact hs
  · exact finishWindow_exhausted _ _ _ _ ((endRun_waitsKept _ _ _ _ _).exhausted hs)

theorem offerAndClose_occasion {pauses : Bool} {s : State} (h : NoPause pauses s) (p : ProbeId) (pl : Plan) (result : QualResult)
    (bodies : List ReportBody) (lost : Bool) : (offerAndClose pauses p pl result bodies lost s).occasion = s.occasion := by
  have hk := offerReports_waitsKept pauses p bodies lost s
  rw [offerAndClose_whole (offerReports_remaining_of_noPause h p bodies lost), closeWindow_occasion (h.kept hk.exhausted), hk.occasion]

theorem offerAndClose_exhausted (pauses : Bool) (p : ProbeId) (pl : Plan) (result : QualResult) (bodies : List ReportBody) (lost : Bool)
    {s : State} (h : s.schedule = []) : (offerAndClose pauses p pl result bodies lost s).schedule = [] := by
  have hk := offerReports_waitsKept pauses p bodies lost s
  rw [offerAndClose_whole (offerReports_remaining_of_noPause (.inr h) p bodies lost)]
  exact closeWindow_exhausted _ _ _ _ _ (hk.exhausted h)

/-- A completion in progress goes on to its end, or is dropped with the run it was of; else nothing is done. -/
theorem continueOccasion_cases (pauses : Bool) (s : State) :
    (s.occasion = none ∧ continueOccasion pauses s = s) ∨ continueOccasion pauses s = s.setOccasion none ∨
      ∃ p pl result bodies lost, continueOccasion pauses s = offerAndClose pauses p pl result bodies lost (s.setOccasion none) := by
  cases ho : s.occasion with
  | none => exact .inl ⟨rfl, continueOccasion_of_none ho _⟩
  | some o =>
    refine .inr ?_
    unfold continueOccasion
    rw [ho]; dsimp only
    split
    · exact .inl rfl
    · split
      · exact .inr ⟨_, _, _, _, _, rfl⟩
      · exact .inl rfl

/-- After a completion has gone on without a pause none stands (R53). -/
theorem continueOccasion_occasion {pauses : Bool} {s : State} (h : NoPause pauses s) : (continueOccasion pauses s).occasion = none := by
  rcases continueOccasion_cases pauses s with ⟨ho, e⟩ | e | ⟨p, pl, result, bodies, lost, e⟩ <;> rw [e]
  · exact ho
  · rfl
  · exact offerAndClose_occasion (s := s.setOccasion none) h _ _ _ _ _

theorem continueOccasion_exhausted (pauses : Bool) {s : State} (h : s.schedule = []) : (continueOccasion pauses s).schedule = [] := by
  rcases continueOccasion_cases pauses s with ⟨-, e⟩ | e | ⟨p, pl, result, bodies, lost, e⟩ <;> rw [e]
  · exact h
  · exact h
  · exact offerAndClose_exhausted (s := s.setOccasion none) _ _ _ _ _ _ h

end Sys2Proof.Machine
end

section
/-! SUPPORT. O35: the chains take one claim at a time, each claim leaves less to do than it found, and so they end with nothing waiting. -/

namespace Sys2Proof.Machine

/-! ### The claims that may come next (R65, R133) -/

theorem mem_nextEvents_iff (s : State) (k : Nat) : k ∈ s.nextEvents ↔
    ∃ e, s.raised[k]? = some e ∧ ∀ j d, j < k → s.raised[j]? = some d → d.source ≠ e.source := by
  simp only [State.nextEvents, List.mem_filter, List.mem_range, oldestOfItsSource, Option.any_eq_true, List.all_eq_true, bne_iff_ne]
  constructor
  · rintro ⟨-, e, he, hd⟩
    exact ⟨e, he, fun j d hj hs => hd d (List.mem_of_getElem? ((List.getElem?_take_of_lt hj).trans hs))⟩
  · rintro ⟨e, he, hd⟩
    refine ⟨(List.getElem?_eq_some_iff.1 he).1, e, he, fun d hm => ?_⟩
    obtain ⟨j, hj⟩ := List.mem_iff_getElem?.1 hm
    have hlt : j < k := by
      by_contra hn
      rw [List.getElem?_take, if_neg hn] at hj; cases hj
    exact hd j d hlt ((List.getElem?_take_of_lt hlt).symm.trans hj)

theorem nextEvents_increasing (s : State) : s.nextEvents.Pairwise (fun x y => x < y) := List.Pairwise.filter _ List.pairwise_lt_range

/-- Nothing that waits is nothing to claim. -/
theorem claims_eq_zero_iff (s : State) : s.claims = 0 ↔ s.raised = [] ∧ s.actions = [] := by
  rw [State.claims, Nat.add_eq_zero_iff, List.length_eq_zero_iff, List.length_eq_zero_iff]
  refine and_congr_left fun _ => ⟨fun h => ?_, fun h => ?_⟩
  · by_contra hr
    exact State.nextEvents_ne_nil hr h
  · rw [State.nextEvents, h]; rfl

theorem choose_claims_eq (s : State) (n : Nat) : (s.choose n).state.claims = s.claims := by
  obtain ⟨sch, e⟩ := s.choose_state n
  rw [e]; rfl

theorem choose_chainFuel (s : State) (n : Nat) : (s.choose n).state.chainFuel = s.chainFuel := by
  obtain ⟨sch, e⟩ := s.choose_state n
  rw [e]; rfl

theorem takeWaiting_of_getElem? {s : State} {i : Nat} {w : Waiting} (h : s.actions[i]? = some w) :
    let a := takeAction w.target w.action w.depth (s.setActions (s.actions.eraseIdx i))
    takeWaiting i s = (countAction w.slot a.fired a.effect.state).raise a.effect.events := by
  unfold takeWaiting; rw [h]

theorem takeRaised_of_getElem? {s : State} {k : Nat} {e : Event} (h : s.raised[k]? = some e) :
    takeRaised k s = takeEvent e (s.setRaised (s.raised.eraseIdx k)) := by
  unfold takeRaised; rw [h]

theorem takeClaim_event {s : State} {i k : Nat} {e : Event} (hi : s.nextEvents[i]? = some k) (he : s.raised[k]? = some e) :
    takeClaim i s = takeEvent e (s.setRaised (s.raised.eraseIdx k)) := by
  unfold takeClaim; rw [hi]
  exact takeRaised_of_getElem? he

theorem takeClaim_action (s : State) (i : Nat) : takeClaim (s.nextEvents.length + i) s = takeWaiting i s := by
  unfold takeClaim
  rw [List.getElem?_eq_none (Nat.le_add_right _ _), Nat.add_sub_cancel_left]

/-- A claim of the chains is an event that the table takes, or an action that its target takes. -/
theorem takeClaim_cases {s : State} {i : Nat} (h : i < s.claims) :
    (∃ k e, s.raised[k]? = some e ∧ takeClaim i s = takeEvent e (s.setRaised (s.raised.eraseIdx k))) ∨
      ∃ j w, s.actions[j]? = some w ∧ takeClaim i s = takeWaiting j s := by
  by_cases hi : i < s.nextEvents.length
  · have hk : s.nextEvents[i]? = some s.nextEvents[i] := List.getElem?_eq_getElem hi
    obtain ⟨e, he, -⟩ := (mem_nextEvents_iff s _).1 (List.mem_of_getElem? hk)
    exact .inl ⟨_, e, he, takeClaim_event hk he⟩
  · obtain ⟨j, rfl⟩ := Nat.exists_eq_add_of_le (Nat.le_of_not_lt hi)
    rw [State.claims] at h
    have hj : s.actions[j]? = some s.actions[j] := List.getElem?_eq_getElem (by omega)
    exact .inr ⟨j, _, hj, takeClaim_action s j⟩

/-! ### What one claim leaves waiting (R134, R136) -/

theorem takeWaiting_raised {s : State} {i : Nat} {w : Waiting} (h : s.actions[i]? = some w) :
    (takeWaiting i s).raised = s.raised ∨
      ∃ kind, (takeWaiting i s).raised = s.raised ++ [{ source := w.target, kind := kind, depth := w.depth }] := by
  have hk := (takeAction_waitsKept w.target w.action w.depth (s.setActions (s.actions.eraseIdx i))).trans
    (countAction_waitsKept w.slot (takeAction w.target w.action w.depth (s.setActions (s.actions.eraseIdx i))).fired _)
  rw [takeWaiting_of_getElem? h]
  rw [State.raise_raised, hk.raised]
  rcases takeAction_events w.target w.action w.depth (s.setActions (s.actions.eraseIdx i)) with e | ⟨kind, e⟩ <;> rw [e]
  · exact .inl (List.append_nil _)
  · exact .inr ⟨kind, rfl⟩

theorem takeWaiting_actions {s : State} {i : Nat} {w : Waiting} (h : s.actions[i]? = some w) :
    (takeWaiting i s).actions = s.actions.eraseIdx i := by
  rw [takeWaiting_of_getElem? h]
  rw [State.raise_actions, (countAction_waitsKept _ _ _).actions, (takeAction_waitsKept _ _ _ _).actions, State.setActions_actions]

/-- A claim of the chains touches no completion, and takes nothing from an exhausted schedule. -/
theorem takeClaim_keeps {s : State} {i : Nat} (h : i < s.claims) :
    (takeClaim i s).occasion = s.occasion ∧ (s.schedule = [] → (takeClaim i s).schedule = []) := by
  rcases takeClaim_cases h with ⟨k, e, -, ht⟩ | ⟨j, w, hw, ht⟩
  · rw [ht]
    rcases takeEvent_cases e (s.setRaised (s.raised.eraseIdx k)) with ⟨-, q⟩ | ⟨-, q⟩ <;> rw [q] <;> exact ⟨rfl, id⟩
  · have hk := (takeAction_waitsKept w.target w.action w.depth (s.setActions (s.actions.eraseIdx j))).trans
      (countAction_waitsKept w.slot (takeAction w.target w.action w.depth (s.setActions (s.actions.eraseIdx j))).fired _)
    rw [ht, takeWaiting_of_getElem? hw]
    exact ⟨hk.occasion, hk.exhausted⟩

/-! ### The weight of what waits -/

theorem sum_map_eraseIdx {α : Type} (f : α → Nat) {l : List α} {i : Nat} {x : α} (h : l[i]? = some x) :
    (l.map f).sum = f x + ((l.eraseIdx i).map f).sum := by
  obtain ⟨hi, rfl⟩ := List.getElem?_eq_some_iff.1 h
  exact (((List.getElem_cons_eraseIdx_perm hi).map f).sum_eq).symm

theorem eventWeight_pos (n : Nat) : 0 < eventWeight n := by
  cases n with
  | zero => exact Nat.one_pos
  | succ n => exact Nat.add_pos_left Nat.one_pos _

/-- At most 24 couplings name an event (R127). -/
theorem matching_length_le (t : CouplingTable) (source : ProbeId) (kind : EventKind) : (t.matching source kind).length ≤ 24 :=
  (List.length_filterMap_le _ _).trans_eq (List.length_finRange (n := 24))

/-- The actions of an event weigh less than the event (R134, R137). -/
theorem takeEvent_chainFuel (e : Event) (s : State) : (takeEvent e s).chainFuel < s.chainFuel + e.weight := by
  rcases takeEvent_cases e s with ⟨hd, q⟩ | ⟨-, q⟩ <;> rw [q]
  · have hsum : (((s.cpl.matching e.source e.kind).map fun sc : SlotId × Coupling =>
        ({ slot := sc.1, target := sc.2.target, action := sc.2.action, depth := e.depth + 1 } : Waiting)).map Waiting.weight).sum =
        (s.cpl.matching e.source e.kind).length * (1 + eventWeight (4 - (e.depth + 1))) := by
      rw [List.map_map, ← smul_eq_mul, ← List.sum_replicate, ← List.map_const']
      rfl
    have hle := Nat.mul_le_mul_right (1 + eventWeight (4 - (e.depth + 1))) (matching_length_le s.cpl e.source e.kind)
    have hw : e.weight = 1 + 24 * (1 + eventWeight (4 - (e.depth + 1))) := by
      have h4 : Config.cascadeDepth - e.depth = 4 - (e.depth + 1) + 1 := by
        have : Config.cascadeDepth = 4 := rfl
        omega
      rw [Event.weight, h4, eventWeight]
    simp only [State.chainFuel, State.setActions_raised, State.setActions_actions, List.map_append, List.sum_append, hsum, hw]
    omega
  · exact Nat.lt_add_of_pos_right (eventWeight_pos _)

/-- The event of an action weighs less than the action (R136). -/
theorem takeWaiting_chainFuel {s : State} {i : Nat} {w : Waiting} (h : s.actions[i]? = some w) :
    (takeWaiting i s).chainFuel < s.chainFuel := by
  have hsum := sum_map_eraseIdx Waiting.weight h
  simp only [State.chainFuel, takeWaiting_actions h, hsum, Waiting.weight]
  rcases takeWaiting_raised h with e | ⟨kind, e⟩ <;> rw [e]
  · omega
  · simp only [List.map_append, List.sum_append, List.map_singleton, List.sum_singleton, Event.weight]
    omega

/-- Every claim of the chains leaves less to do than it found. -/
theorem takeClaim_chainFuel {s : State} {i : Nat} (h : i < s.claims) : (takeClaim i s).chainFuel < s.chainFuel := by
  rcases takeClaim_cases h with ⟨k, e, he, ht⟩ | ⟨j, w, hw, ht⟩ <;> rw [ht]
  · have hsum := sum_map_eraseIdx Event.weight he
    have hlt := takeEvent_chainFuel e (s.setRaised (s.raised.eraseIdx k))
    simp only [State.chainFuel, State.setRaised_raised, State.setRaised_actions] at hlt ⊢
    omega
  · exact takeWaiting_chainFuel hw

/-! ### The chains one claim at a time (R134, R138) -/

/-- The choice of the chains: one of the claims, or where they may pause that another command comes first. -/
def State.nextClaim (s : State) (pauses : Bool) : Choice := s.choose (s.claims + pauses.toNat)

/-- The chosen claim taken. -/
def State.afterClaim (s : State) (pauses : Bool) : State := takeClaim (s.nextClaim pauses).index (s.nextClaim pauses).state

theorem runChain_of_no_claims {s : State} (h : s.claims = 0) (pauses : Bool) (n : Nat) : runChain pauses n s = s := by
  obtain ⟨hr, ha⟩ := (claims_eq_zero_iff s).1 h
  exact runChain_of_calm hr ha pauses n

theorem runChain_goes_on {s : State} {pauses : Bool} (h : s.claims ≠ 0) (hi : (s.nextClaim pauses).index < s.claims) (n : Nat) :
    runChain pauses (n + 1) s = runChain pauses n (s.afterClaim pauses) := by
  rw [runChain, if_neg h]
  exact if_pos hi

theorem runChain_pauses {s : State} {pauses : Bool} (h : s.claims ≠ 0) (hi : ¬ (s.nextClaim pauses).index < s.claims) (n : Nat) :
    runChain pauses (n + 1) s = (s.nextClaim pauses).state := by
  rw [runChain, if_neg h]
  exact if_neg hi

/-- The chosen claim is still there once the choice is used up. -/
theorem nextClaim_index_valid {s : State} {pauses : Bool} (hi : (s.nextClaim pauses).index < s.claims) :
    (s.nextClaim pauses).index < (s.nextClaim pauses).state.claims := by
  rw [State.nextClaim, choose_claims_eq]; exact hi

theorem afterClaim_chainFuel {s : State} {pauses : Bool} (hi : (s.nextClaim pauses).index < s.claims) :
    (s.afterClaim pauses).chainFuel < s.chainFuel := by
  have hf := takeClaim_chainFuel (nextClaim_index_valid hi)
  rwa [State.nextClaim, choose_chainFuel] at hf

theorem afterClaim_occasion {s : State} {pauses : Bool} (hi : (s.nextClaim pauses).index < s.claims) :
    (s.afterClaim pauses).occasion = s.occasion := by
  exact (takeClaim_keeps (nextClaim_index_valid hi)).1.trans (choose_waitsKept _ _).occasion

theorem afterClaim_exhausted {s : State} {pauses : Bool} (hi : (s.nextClaim pauses).index < s.claims) (h : s.schedule = []) :
    (s.afterClaim pauses).schedule = [] := by
  exact (takeClaim_keeps (nextClaim_index_valid hi)).2 ((choose_waitsKept _ _).exhausted h)

/-- A claim waits only where some fuel is left for it. -/
theorem chainFuel_pos {s : State} (h : s.claims ≠ 0) : 0 < s.chainFuel :=
  Nat.zero_lt_of_lt (takeClaim_chainFuel (Nat.pos_of_ne_zero h))

/-- The bound by which the model stops a chain is never reached: with fuel enough the chains run to where they end or pause. -/
theorem runChain_fuel_irrelevant {pauses : Bool} {n m : Nat} {s : State} (hn : s.chainFuel ≤ n) (hm : s.chainFuel ≤ m) :
    runChain pauses n s = runChain pauses m s := by
  induction n generalizing m s with
  | zero =>
    have h : s.claims = 0 := by
      by_contra hc
      have := chainFuel_pos hc
      omega
    rw [runChain_of_no_claims h, runChain_of_no_claims h]
  | succ n ih =>
    by_cases hc : s.claims = 0
    · rw [runChain_of_no_claims hc, runChain_of_no_claims hc]
    obtain ⟨m, rfl⟩ : ∃ k, m = k + 1 := Nat.exists_eq_succ_of_ne_zero (by have := chainFuel_pos hc; omega)
    by_cases hi : (s.nextClaim pauses).index < s.claims
    · have hf := afterClaim_chainFuel hi
      rw [runChain_goes_on hc hi, runChain_goes_on hc hi]
      exact ih (by omega) (by omega)
    · rw [runChain_pauses hc hi, runChain_pauses hc hi]

/-- The chains run on the fuel of the state they find. -/
def runChains (pauses : Bool) (s : State) : State := runChain pauses s.chainFuel s

theorem runChains_of_no_claims {s : State} (h : s.claims = 0) (pauses : Bool) : runChains pauses s = s := runChain_of_no_claims h _ _

theorem runChains_goes_on {s : State} {pauses : Bool} (h : s.claims ≠ 0) (hi : (s.nextClaim pauses).index < s.claims) :
    runChains pauses s = runChains pauses (s.afterClaim pauses) := by
  have hf := afterClaim_chainFuel hi
  obtain ⟨n, hn⟩ := Nat.exists_eq_succ_of_ne_zero (Nat.ne_of_gt (chainFuel_pos h))
  rw [runChains, hn, Nat.succ_eq_add_one, runChain_goes_on h hi]
  exact runChain_fuel_irrelevant (by omega) le_rfl

theorem runChains_pauses {s : State} {pauses : Bool} (h : s.claims ≠ 0) (hi : ¬ (s.nextClaim pauses).index < s.claims) :
    runChains pauses s = (s.nextClaim pauses).state := by
  obtain ⟨n, hn⟩ := Nat.exists_eq_succ_of_ne_zero (Nat.ne_of_gt (chainFuel_pos h))
  rw [runChains, hn, Nat.succ_eq_add_one, runChain_pauses h hi]

/-- An induction over a chain: what holds where nothing waits or the chains pause, and before a claim where it holds after it, holds. -/
theorem chain_induction {pauses : Bool} {motive : State → Prop} (none : ∀ s, s.claims = 0 → motive s)
    (pause : ∀ s, s.claims ≠ 0 → ¬ (s.nextClaim pauses).index < s.claims → motive s)
    (claim : ∀ s, s.claims ≠ 0 → (s.nextClaim pauses).index < s.claims → motive (s.afterClaim pauses) → motive s) (s : State) :
    motive s := by
  induction hn : s.chainFuel using Nat.strong_induction_on generalizing s with
  | _ n ih =>
    by_cases hc : s.claims = 0
    · exact none s hc
    · by_cases hi : (s.nextClaim pauses).index < s.claims
      · exact claim s hc hi (ih _ (hn ▸ afterClaim_chainFuel hi) _ rfl)
      · exact pause s hc hi

/-- Where nothing lets the chains pause, the choice is a claim. -/
theorem nextClaim_index_lt {pauses : Bool} {s : State} (h : NoPause pauses s) (hc : s.claims ≠ 0) :
    (s.nextClaim pauses).index < s.claims := by
  rcases h with rfl | h
  · exact s.choose_index_lt (Nat.pos_of_ne_zero hc)
  · rw [State.nextClaim, choose_of_exhausted h]; exact Nat.pos_of_ne_zero hc

/-- Chains that do not pause go on until nothing waits (R134, R139). -/
theorem runChains_calm {pauses : Bool} {s : State} (h : NoPause pauses s) (ho : s.occasion = none) : Calm (runChains pauses s) := by
  induction s using chain_induction (pauses := pauses) with
  | none s hc =>
    obtain ⟨hr, ha⟩ := (claims_eq_zero_iff s).1 hc
    rw [runChains_of_no_claims hc]; exact ⟨ho, hr, ha⟩
  | pause s hc hi => exact absurd (nextClaim_index_lt h hc) hi
  | claim s hc hi ih =>
    rw [runChains_goes_on hc hi]
    exact ih (h.kept (afterClaim_exhausted hi)) ((afterClaim_occasion hi).trans ho)

/-! ### What goes on behind a command, and to the tick's end (R134, R139) -/

theorem resume_of_whole {s : State} (h : s.occasion = none) : s.resume = runChains true s := by
  simp only [State.resume, continueOccasion_of_none h, h]; rfl

theorem finish_eq (s : State) : s.finish = runChains false (continueOccasion false s) := rfl

theorem finish_of_whole {s : State} (h : s.occasion = none) : s.finish = runChains false s := by
  rw [finish_eq, continueOccasion_of_none h]

theorem continueOccasion_idem (s : State) : continueOccasion false (continueOccasion false s) = continueOccasion false s :=
  continueOccasion_of_none (continueOccasion_occasion (.inl rfl)) _

theorem finish_calm (s : State) : Calm s.finish := runChains_calm (.inl rfl) (continueOccasion_occasion (.inl rfl))

/-- With no order given, a command is followed by all that waits (log 7). -/
theorem resume_calm {s : State} (h : s.schedule = []) : Calm s.resume := by
  have ho := continueOccasion_occasion (pauses := true) (.inr h)
  simp only [State.resume, ho]
  exact runChains_calm (.inr (continueOccasion_exhausted true h)) ho

/-- A claim on a probe comes after a completion in progress (R53). -/
theorem probeClaim_continued (s : State) (claim : State → State) :
    s.probeClaim claim = (continueOccasion false s).probeClaim claim := by
  rw [State.probeClaim, State.probeClaim, continueOccasion_idem]

/-! ### What must be whole before a request (R139, R149) -/

theorem readyFor_of_neither {r : Except DispatchFault Request} {s : State} (hb : betweenOffers r s = false) (ht : ofTable r = false) :
    readyFor r s = continueOccasion false s := by
  unfold readyFor
  rw [hb, ht]; rfl

/-- A request of the table comes after the waiting actions (R139). -/
theorem readyFor_of_table {r : Except DispatchFault Request} {s : State} (hb : betweenOffers r s = false) (ht : ofTable r = true) :
    readyFor r s = takeActions (continueOccasion false s).actions.length (continueOccasion false s) := by
  unfold readyFor
  rw [hb, ht]; rfl

/-- PROBE_RESET alone may come between the offers of a completion (R149). -/
theorem betweenOffers_of_other {r : Request} (h : ∀ b, r ≠ .probeReset b) (s : State) : betweenOffers (.ok r) s = false := by
  unfold betweenOffers
  split
  · rename_i b o hr ho; cases hr; exact absurd rfl (h b)
  · rfl

theorem ofTable_eq_true_iff (r : Request) :
    ofTable (.ok r) = true ↔ (∃ a e b c, r = .coupleAdd a e b c) ∨ (∃ b, r = .coupleRemove b) ∨ r = .coupleList := by
  refine ⟨fun h => ?_, fun h => ?_⟩
  · cases r with
    | coupleAdd a e b c => exact .inl ⟨a, e, b, c, rfl⟩
    | coupleRemove b => exact .inr (.inl ⟨b, rfl⟩)
    | coupleList => exact .inr (.inr rfl)
    | _ => exact absurd h Bool.false_ne_true
  · rcases h with ⟨a, e, b, c, rfl⟩ | ⟨b, rfl⟩ | rfl <;> rfl

/-- Each claim of `takeActions` takes one waiting action. -/
theorem takeActions_actions {n : Nat} {s : State} (h : s.actions.length = n) : (takeActions n s).actions = [] := by
  induction n generalizing s with
  | zero => exact List.length_eq_zero_iff.1 h
  | succ n ih =>
    have hc : (s.choose s.actions.length).state.actions = s.actions := (choose_waitsKept _ _).actions
    have hi : (s.choose s.actions.length).index < s.actions.length := s.choose_index_lt (by omega)
    have hw : (s.choose s.actions.length).state.actions[(s.choose s.actions.length).index]? =
        some s.actions[(s.choose s.actions.length).index] := by rw [hc]; exact List.getElem?_eq_getElem hi
    refine ih ?_
    rw [takeWaiting_actions hw, hc, List.length_eraseIdx_of_lt hi, h]; rfl

theorem probeOf_any_other {b : Byte} {o : Occasion} :
    (probeOf b).any (· != o.probe) = true ↔ b.toNat < 16 ∧ b.toNat ≠ o.probe.val := by
  unfold probeOf
  split
  · rename_i h
    rw [Option.any_some, bne_iff_ne, Ne, Fin.ext_iff]
    exact (and_iff_right h).symm
  · rename_i h; simp [h]

theorem readyFor_probeReset_of_another {b : Byte} {s : State} {o : Occasion} (ho : s.occasion = some o) (hb : b.toNat < 16)
    (hn : b.toNat ≠ o.probe.val) : readyFor (.ok (.probeReset b)) s = s := by
  rw [readyFor_probeReset, betweenOffers_probeReset b ho, if_pos (probeOf_any_other.2 ⟨hb, hn⟩)]

theorem readyFor_probeReset_of_not_another {b : Byte} {s : State}
    (h : ¬ ∃ o, s.occasion = some o ∧ b.toNat < 16 ∧ b.toNat ≠ o.probe.val) :
    readyFor (.ok (.probeReset b)) s = continueOccasion false s := by
  rw [readyFor_probeReset]
  cases ho : s.occasion with
  | none => rw [continueOccasion_of_none ho, ite_self]
  | some o =>
    rw [betweenOffers_probeReset b ho, if_neg]
    exact fun hb => h ⟨o, ho, probeOf_any_other.1 hb⟩

/-! ### O35 -/

/-- Behind a command the next claim is taken, or another command comes first, as the schedule says (R139; log 7). -/
theorem resume_by_choice {s : State} (ho : s.occasion = none) (hc : s.claims ≠ 0) :
    let c := s.choose (s.claims + 1)
    (c.index < s.claims → s.resume = (takeClaim c.index c.state).resume) ∧ (c.index = s.claims → s.resume = c.state) ∧
      c.index ≤ s.claims := by
  refine ⟨fun hi => ?_, fun hi => ?_, Nat.le_of_lt_succ (s.choose_index_lt (Nat.succ_pos _))⟩
  · rw [resume_of_whole ho, runChains_goes_on (pauses := true) hc hi]
    exact (resume_of_whole ((afterClaim_occasion (pauses := true) hi).trans ho)).symm
  · rw [resume_of_whole ho]
    exact runChains_pauses (pauses := true) hc (Nat.not_lt.2 hi.ge)

theorem finish_by_choice {s : State} (ho : s.occasion = none) (hc : s.claims ≠ 0) :
    let c := s.choose s.claims
    c.index < s.claims ∧ s.finish = (takeClaim c.index c.state).finish := by
  have hi : (s.nextClaim false).index < s.claims := nextClaim_index_lt (.inl rfl) hc
  refine ⟨hi, ?_⟩
  rw [finish_of_whole ho, runChains_goes_on hc hi]
  exact (finish_of_whole ((afterClaim_occasion hi).trans ho)).symm

/-- Settles O35: one claim at a time (`resume_by_choice`, `finish_by_choice`), and an end with nothing waiting (`runChains_calm`), since
every claim leaves less to do (`takeClaim_chainFuel`). -/
theorem chainsRunUntilNothingWaits : Obligations.ChainsRunUntilNothingWaits := by
  refine ⟨fun s i w h => takeWaiting_of_getElem? h, mem_nextEvents_iff, fun s => ⟨nextEvents_increasing s, rfl⟩,
    fun s i k e hi he => takeClaim_event hi he, takeClaim_action, fun s h => ⟨State.resume_of_calm h, State.finish_of_calm h⟩,
    fun s => resume_by_choice, fun s => finish_by_choice, finish_calm, fun s => resume_calm, fun s p => ?_, fun s r => ⟨?_, ?_⟩,
    fun s b => ⟨?_, readyFor_probeReset_of_not_another⟩, fun s e => readyFor_of_neither (by cases s.occasion <;> rfl) rfl,
    fun s n h => ⟨s.choose_index_lt (List.length_pos_iff.2 h), rfl⟩⟩
  · exact ⟨continueOccasion_occasion (.inl rfl), probeClaim_continued s _, probeClaim_continued s _, probeClaim_continued s _,
      probeClaim_continued s _⟩
  · intro hr ha hm hl
    refine readyFor_of_neither (betweenOffers_of_other hr s) (Bool.eq_false_of_not_eq_true fun ht => ?_)
    rcases (ofTable_eq_true_iff r).1 ht with ⟨a, e, b, c, h⟩ | ⟨b, h⟩ | h
    · exact ha a e b c h
    · exact hm b h
    · exact hl h
  · intro ht
    have hr : ∀ b, r ≠ .probeReset b := by rintro b rfl; simp at ht
    have e := readyFor_of_table (betweenOffers_of_other hr s) ((ofTable_eq_true_iff r).2 ht)
    exact ⟨e, by rw [e]; exact takeActions_actions rfl⟩
  · rintro ⟨o, ho, hb, hn⟩
    exact readyFor_probeReset_of_another ho hb hn

end Sys2Proof.Machine
end

section
/-! SUPPORT. A completion between whose offers no report leaves comes to the same, however the schedule lets it stand on its way: it goes on
as the completion of the same state with an exhausted schedule, which no choice interrupts. -/

namespace Sys2Proof.Machine

/-! ### The state with its schedule left out -/

/-- The state with its schedule exhausted. -/
def State.unscheduled (s : State) : State := s.setSchedule []

theorem choose_unscheduled (s : State) (n : Nat) : (s.choose n).state.unscheduled = s.unscheduled := by
  obtain ⟨sch, e⟩ := s.choose_state n
  rw [e]; rfl

/-- A choice uses up the front of the schedule (log 7). -/
theorem choose_suffix (s : State) (n : Nat) : (s.choose n).state.schedule <:+ s.schedule := by
  unfold State.choose
  split
  · exact List.suffix_rfl
  · split
    · exact List.suffix_rfl
    · rename_i c cs h; rw [h]; exact List.suffix_cons c cs

/-- Whether a claim is undisturbed is a matter of the link, the credits and the schedule. -/
theorem State.undisturbed.congr {s t : State} (h : s.undisturbed) (hl : t.hli = s.hli) (hc : t.rpq.credits = s.rpq.credits)
    (hs : t.schedule <:+ s.schedule) : t.undisturbed := by
  refine h.imp (fun hk => ?_) (fun hz n hn => hz n (hs.subset hn))
  unfold State.linkHeld at *
  rw [hl, hc]; exact hk

/-- Of an undisturbed claim no dequeue is part: it uses the schedule alone. -/
theorem raceDequeue_of_undisturbed {s : State} (h : s.undisturbed) :
    ∃ sch, sch <:+ s.schedule ∧ s.raceDequeue = s.setSchedule sch := by
  rcases h with h | h
  · exact ⟨s.schedule, List.suffix_rfl, s.raceDequeue_of_not (canDequeue_of_linkHeld h)⟩
  · obtain ⟨sch, e⟩ := s.choose_state 2
    have hsch : sch <:+ s.schedule := by
      have hk := choose_suffix s 2
      rwa [e] at hk
    have hi : (s.choose 2).index ≠ 1 := by
      cases hs : s.schedule with
      | nil => rw [choose_of_exhausted hs]; exact Nat.zero_ne_one
      | cons n ns =>
        have hn : n = 0 := h n (hs ▸ List.mem_cons_self)
        rw [choose_of_schedule hs (by decide), hn]; exact Nat.zero_ne_one
    unfold State.raceDequeue
    split
    · exact ⟨sch, hsch, by rw [if_neg hi, e]⟩
    · exact ⟨s.schedule, List.suffix_rfl, rfl⟩

/-! ### What the operations of a completion do to the schedule: nothing but their choices -/

/-- The offer of a report once the dequeue that may come before it has come or not (R147, R148). -/
def State.offer (s : State) (p : ProbeId) (b : ReportBody) : Offered :=
  if (s.withGenerated p).hasRoom p then { state := (s.withGenerated p).enqueueReport p b, lost := false }
  else { state := (s.withGenerated p).loseReport p, lost := true }

theorem generate_eq_offer (s : State) (p : ProbeId) (b : ReportBody) : s.generate p b = s.raceDequeue.offer p b := rfl

theorem offer_setSchedule (s : State) (sch : List Nat) (p : ProbeId) (b : ReportBody) :
    (s.setSchedule sch).offer p b = { state := (s.offer p b).state.setSchedule sch, lost := (s.offer p b).lost } := by
  have hr : ((s.setSchedule sch).withGenerated p).hasRoom p = (s.withGenerated p).hasRoom p := rfl
  unfold State.offer
  rw [hr]
  split <;> rfl

/-- An offer touches neither the link nor the credits nor the schedule. -/
theorem offer_link (s : State) (p : ProbeId) (b : ReportBody) :
    (s.offer p b).state.hli = s.hli ∧ (s.offer p b).state.rpq.credits = s.rpq.credits ∧ (s.offer p b).state.schedule = s.schedule := by
  unfold State.offer
  split <;> exact ⟨rfl, rfl, rfl⟩

theorem startRun_setSchedule (p : ProbeId) (depth : Nat) (s : State) (sch : List Nat) :
    startRun p depth (s.setSchedule sch) =
      { state := (startRun p depth s).state.setSchedule sch, events := (startRun p depth s).events } := by
  have hs : (s.setSchedule sch).lfe.stepped = s.lfe.stepped := rfl
  unfold startRun; dsimp only
  rw [hs]
  cases s.lfe.stepped <;> rfl

theorem swapPending_setSchedule (p : ProbeId) (s : State) (sch : List Nat) :
    swapPending p (s.setSchedule sch) =
      { state := (swapPending p s).state.setSchedule sch, events := (swapPending p s).events } := by
  cases hc : s.pendingCommit p with
  | none => rw [swapPending_of_none hc, swapPending_of_none (s := s.setSchedule sch) hc]; rfl
  | some c =>
    by_cases hr : (s.probe p).state = .running
    · rw [swapPending_of_running (new := c.1) (edges := c.2) hc hr,
        swapPending_of_running (s := s.setSchedule sch) (new := c.1) (edges := c.2) hc hr]
      exact startRun_setSchedule p 0 ((s.setProbe p (replanned (s.probe p) c.1 c.2)).setStaging none) sch
    · rw [swapPending_of_idle (new := c.1) (edges := c.2) hc hr,
        swapPending_of_idle (s := s.setSchedule sch) (new := c.1) (edges := c.2) hc hr]; rfl

theorem finishWindow_setSchedule (p : ProbeId) (pl : Plan) (result : QualResult) (ended : Bool) (s : State) (sch : List Nat) :
    finishWindow p pl result ended (s.setSchedule sch) = (finishWindow p pl result ended s).setSchedule sch := by
  have hc : (s.setSchedule sch).pendingCommit p = s.pendingCommit p := rfl
  unfold finishWindow; dsimp only
  rw [swapPending_setSchedule, hc]
  split <;> rfl

theorem startRun_schedule (p : ProbeId) (depth : Nat) (s : State) : (startRun p depth s).state.schedule = s.schedule := by
  unfold startRun; dsimp only
  split <;> rfl

/-- A swap touches neither the link nor the queue nor the schedule. -/
theorem swapPending_link (p : ProbeId) (s : State) :
    (swapPending p s).state.hli = s.hli ∧ (swapPending p s).state.rpq = s.rpq ∧ (swapPending p s).state.schedule = s.schedule := by
  rcases swapPending_cases p s with ⟨-, e⟩ | ⟨pl, es, -, ⟨-, e⟩ | ⟨-, e⟩⟩ <;> rw [e]
  · exact ⟨rfl, rfl, rfl⟩
  · exact ⟨startRun_hli _ _ _, startRun_rpq _ _ _, startRun_schedule _ _ _⟩
  · exact ⟨rfl, rfl, rfl⟩

theorem finishWindow_link (p : ProbeId) (pl : Plan) (result : QualResult) (ended : Bool) (s : State) :
    (finishWindow p pl result ended s).hli = s.hli ∧ (finishWindow p pl result ended s).rpq = s.rpq ∧
      (finishWindow p pl result ended s).schedule = s.schedule := by
  unfold finishWindow; dsimp only
  split <;> exact swapPending_link p s

/-! ### An undisturbed state and the state that it goes on as -/

/-- `s` is undisturbed, and `u` is `s` with an exhausted schedule. -/
structure Tracks (u s : State) : Prop where
  undisturbed : s.undisturbed
  same : s.unscheduled = u

theorem State.undisturbed.tracks {s : State} (h : s.undisturbed) : Tracks s.unscheduled s := ⟨h, rfl⟩

namespace Tracks

variable {u s : State}

theorem probe (h : Tracks u s) (p : ProbeId) : u.probe p = s.probe p := by rw [← h.same]; rfl

theorem occasion (h : Tracks u s) : u.occasion = s.occasion := by rw [← h.same]; rfl

theorem exhausted (h : Tracks u s) : u.schedule = [] := by rw [← h.same]; rfl

theorem setProbe (h : Tracks u s) (p : ProbeId) (x : Probe) : Tracks (u.setProbe p x) (s.setProbe p x) :=
  ⟨h.undisturbed, by rw [← h.same]; rfl⟩

theorem setOccasion (h : Tracks u s) (o : Option Occasion) : Tracks (u.setOccasion o) (s.setOccasion o) :=
  ⟨h.undisturbed, by rw [← h.same]; rfl⟩

theorem choose (h : Tracks u s) (n : Nat) : Tracks u (s.choose n).state := by
  refine ⟨?_, (choose_unscheduled s n).trans h.same⟩
  obtain ⟨sch, e⟩ := s.choose_state n
  exact h.undisturbed.congr (by rw [e]; rfl) (by rw [e]; rfl) (choose_suffix s n)

theorem standing (h : Tracks u s) (pauses : Bool) : Tracks u (s.standing pauses).state := h.choose _

/-- A report is offered to the same room, whatever the schedule says (R147, R148). -/
theorem generate (h : Tracks u s) (p : ProbeId) (b : ReportBody) :
    Tracks (u.generate p b).state (s.generate p b).state ∧ (u.generate p b).lost = (s.generate p b).lost := by
  obtain ⟨sch, hsch, hs⟩ := raceDequeue_of_undisturbed h.undisturbed
  obtain ⟨hh, hc, hd⟩ := offer_link s p b
  have hg : s.generate p b = { state := (s.offer p b).state.setSchedule sch, lost := (s.offer p b).lost } := by
    rw [generate_eq_offer, hs, offer_setSchedule]
  have hu : u.generate p b = { state := (s.offer p b).state.unscheduled, lost := (s.offer p b).lost } := by
    rw [generate_eq_offer, raceDequeue_of_noDequeue (.inr h.exhausted), ← h.same]
    exact offer_setSchedule s [] p b
  rw [hg, hu]
  exact ⟨⟨h.undisturbed.congr hh hc hsch, rfl⟩, rfl⟩

theorem endRun (h : Tracks u s) (p : ProbeId) (pl : Plan) (o : RunOutcome) (byStop : Bool) :
    Tracks (endRun p pl o byStop u) (endRun p pl o byStop s) := by
  rw [endRun_eq, endRun_eq, h.probe]
  exact ((h.setProbe p _).generate p _).1

theorem finishWindow (h : Tracks u s) (p : ProbeId) (pl : Plan) (result : QualResult) (ended : Bool) :
    Tracks (finishWindow p pl result ended u) (finishWindow p pl result ended s) := by
  obtain ⟨hl, hr, hs⟩ := finishWindow_link p pl result ended s
  refine ⟨h.undisturbed.congr hl (by rw [hr]) (by rw [hs]), ?_⟩
  rw [← h.same]
  exact (finishWindow_setSchedule p pl result ended s []).symm

/-- What remains to offer of a completion that stands leads to where the offers without a pause lead (R149). -/
theorem offerReports (h : Tracks u s) (pauses : Bool) (p : ProbeId) (bodies : List ReportBody) (lost : Bool) :
    let t := offerReports pauses p bodies lost s
    ∃ x, Tracks x t.state ∧ offerReports false p (t.remaining.getD []) t.lost x = offerReports false p bodies lost u := by
  induction bodies generalizing lost u s with
  | nil => exact ⟨u, h, rfl⟩
  | cons b bs ih =>
    have hstand := h.standing pauses
    by_cases hi : (s.standing pauses).index = 1
    · rw [offerReports_cons_stands hi]
      exact ⟨u, hstand, rfl⟩
    · obtain ⟨hg, hlost⟩ := hstand.generate p b
      rw [offerReports_cons_goes_on hi, offerReports_false_cons, hlost]
      exact ih hg _

theorem offerReports_false (h : Tracks u s) (p : ProbeId) (bodies : List ReportBody) (lost : Bool) :
    Tracks (Machine.offerReports false p bodies lost u).state (Machine.offerReports false p bodies lost s).state ∧
      (Machine.offerReports false p bodies lost u).lost = (Machine.offerReports false p bodies lost s).lost := by
  obtain ⟨x, hx, e⟩ := h.offerReports false p bodies lost
  rw [offerReports_whole] at e
  rw [← e]
  exact ⟨hx, rfl⟩

theorem closeWindow_false (h : Tracks u s) (p : ProbeId) (pl : Plan) (result : QualResult) (lost : Bool) :
    Tracks (closeWindow false p pl result lost u) (closeWindow false p pl result lost s) := by
  cases hd : runEndDecision pl result lost (s.probe p).windowsDone with
  | none =>
    rw [closeWindow_goes_on hd, closeWindow_goes_on (by rw [h.probe]; exact hd)]
    exact h.finishWindow _ _ _ _
  | some o =>
    rw [closeWindow_false_ends hd, closeWindow_false_ends (by rw [h.probe]; exact hd)]
    exact (h.endRun _ _ _ _).finishWindow _ _ _ _

theorem offerAndClose_false (h : Tracks u s) (p : ProbeId) (pl : Plan) (result : QualResult) (bodies : List ReportBody) (lost : Bool) :
    Tracks (offerAndClose false p pl result bodies lost u) (offerAndClose false p pl result bodies lost s) := by
  obtain ⟨ho, hl⟩ := h.offerReports_false p bodies lost
  rw [offerAndClose_whole (offerReports_whole _ _ _ _), offerAndClose_whole (offerReports_whole _ _ _ _), hl]
  exact ho.closeWindow_false _ _ _ _

end Tracks

/-! ### A completion that stands comes to the same as one that does not -/

/-- `s` is undisturbed, and its completion, made whole, leads to `u`. -/
structure LeadsTo (u s : State) : Prop where
  undisturbed : s.undisturbed
  whole : Tracks u (continueOccasion false s)

theorem Tracks.leadsTo {u s : State} (h : Tracks u s) (ho : s.occasion = none) : LeadsTo u s :=
  ⟨h.undisturbed, by rw [continueOccasion_of_none ho]; exact h⟩

section
variable {u s : State} {p : ProbeId} {pl : Plan}

/-- A completion of a RUNNING probe that stands before the offers `bodies` goes on with them. -/
theorem Tracks.leadsTo_of_standing (h : Tracks u s) (ho : s.occasion = none) (hr : (s.probe p).state = .running)
    (hp : (s.probe p).plan = some pl) (result : QualResult) (bodies : List ReportBody) (lost : Bool) :
    LeadsTo (offerAndClose false p pl result bodies lost u)
      (s.setOccasion (some { probe := p, result := result, remaining := bodies, lost := lost })) := by
  refine ⟨h.undisturbed, ?_⟩
  rw [continueOccasion_of_running (o := { probe := p, result := result, remaining := bodies, lost := lost })
    (s := s.setOccasion _) rfl hp hr]
  have hs : s.setOccasion none = s := by rw [← ho]; rfl
  exact hs ▸ h.offerAndClose_false p pl result bodies lost

theorem closeWindow_leadsTo (h : Tracks u s) (ho : s.occasion = none) (hr : (s.probe p).state = .running)
    (hp : (s.probe p).plan = some pl) (pauses : Bool) (result : QualResult) (lost : Bool) :
    LeadsTo (closeWindow false p pl result lost u) (closeWindow pauses p pl result lost s) := by
  have hstand := h.standing pauses
  have hso : (s.standing pauses).state.occasion = none := (standing_waitsKept s pauses).occasion.trans ho
  rcases closeWindow_cases pauses p pl result lost s with ⟨hd, e⟩ | ⟨o, hd, ⟨-, e⟩ | ⟨-, e⟩⟩ <;> rw [e]
  · rw [closeWindow_goes_on (by rw [h.probe]; exact hd)]
    exact (h.finishWindow p pl result false).leadsTo (by rw [finishWindow_occasion, ho])
  · exact hstand.leadsTo_of_standing hso (by rw [standing_probe]; exact hr) (by rw [standing_probe]; exact hp) result [] lost
  · rw [closeWindow_false_ends (by rw [h.probe]; exact hd)]
    refine ((hstand.endRun p pl o false).finishWindow p pl result true).leadsTo ?_
    rw [finishWindow_occasion, (endRun_waitsKept _ _ _ _ _).occasion, hso]

theorem offerAndClose_leadsTo (h : Tracks u s) (ho : s.occasion = none) (hr : (s.probe p).state = .running)
    (hp : (s.probe p).plan = some pl) (pauses : Bool) (result : QualResult) (bodies : List ReportBody) (lost : Bool) :
    LeadsTo (offerAndClose false p pl result bodies lost u) (offerAndClose pauses p pl result bodies lost s) := by
  obtain ⟨x, hx, e⟩ := h.offerReports pauses p bodies lost
  have hto := (offerReports_waitsKept pauses p bodies lost s).occasion.trans ho
  have hsame := offerReports_probe pauses p bodies lost s p
  have htr := hsame.state.trans hr
  have htp := hsame.plan.trans hp
  have hgoal (bs : List ReportBody) (hbs : (offerReports pauses p bodies lost s).remaining.getD [] = bs) :
      offerAndClose false p pl result bs (offerReports pauses p bodies lost s).lost x =
        offerAndClose false p pl result bodies lost u := by
    rw [hbs] at e
    rw [offerAndClose_whole (offerReports_whole _ _ _ _), offerAndClose_whole (offerReports_whole _ _ _ _), e]
  cases hrem : (offerReports pauses p bodies lost s).remaining with
  | some bs =>
    rw [offerAndClose_stands hrem, ← hgoal bs (by rw [hrem]; rfl)]
    exact hx.leadsTo_of_standing hto htr htp result bs _
  | none =>
    rw [offerAndClose_whole hrem, ← hgoal [] (by rw [hrem]; rfl)]
    exact closeWindow_leadsTo hx hto htr htp pauses result _

end

/-- A completion that goes on, and may stand again, still leads to where it led. -/
theorem LeadsTo.continued {u s : State} (h : LeadsTo u s) (pauses : Bool) : LeadsTo u (continueOccasion pauses s) := by
  cases ho : s.occasion with
  | none => rw [continueOccasion_of_none ho]; exact h
  | some o =>
    have h0 : Tracks (s.setOccasion none).unscheduled (s.setOccasion none) := State.undisturbed.tracks h.undisturbed
    by_cases hrun : (s.probe o.probe).state = .running ∧ ∃ pl, (s.probe o.probe).plan = some pl
    · obtain ⟨hr, pl, hp⟩ := hrun
      have hw := h.whole
      rw [continueOccasion_of_running ho hp hr] at hw
      have hu : offerAndClose false o.probe pl o.result o.remaining o.lost (s.setOccasion none).unscheduled = u :=
        (h0.offerAndClose_false _ _ _ _ _).same.symm.trans hw.same
      rw [continueOccasion_of_running ho hp hr, ← hu]
      exact offerAndClose_leadsTo h0 rfl hr hp pauses _ _ _
    · have hdrop (b : Bool) : continueOccasion b s = s.setOccasion none := by
        unfold continueOccasion
        rw [ho]; dsimp only
        split
        · rfl
        · rename_i pl hp
          exact if_neg fun hr => hrun ⟨hr, pl, hp⟩
      have hw := h.whole
      rw [hdrop] at hw ⊢
      exact hw.leadsTo rfl

/-! ### Events that no coupling names (R134) -/

/-- Only events of `p` wait, above the depth limit, and no coupling names one of them. -/
structure OnlyUncoupled (p : ProbeId) (s : State) : Prop where
  whole : s.occasion = none
  actions : s.actions = []
  uncoupled : s.uncoupled p
  events : ∀ e ∈ s.raised, e.source = p ∧ e.depth < 4

theorem matching_of_uncoupled {s : State} {p : ProbeId} (h : s.uncoupled p) (kind : EventKind) : s.cpl.matching p kind = [] := by
  rw [CouplingTable.matching, List.filterMap_eq_nil_iff]
  intro i _
  cases hc : s.cpl.slots[i.val] with
  | none => rfl
  | some c => exact if_neg fun hs => h i c hc hs.1

section
variable {s : State} {p : ProbeId}

/-- The state with other events, all of them among its own, and another schedule. -/
theorem OnlyUncoupled.sub (h : OnlyUncoupled p s) {es : List Event} (hs : es ⊆ s.raised) (sch : List Nat) :
    OnlyUncoupled p ((s.setRaised es).setSchedule sch) :=
  ⟨h.whole, h.actions, h.uncoupled, fun e he => h.events e (hs he)⟩

/-- The table takes such an event and nothing comes of it. -/
theorem OnlyUncoupled.afterClaim (h : OnlyUncoupled p s) {pauses : Bool} (hi : (s.nextClaim pauses).index < s.claims) :
    ∃ es sch, es ⊆ s.raised ∧ s.afterClaim pauses = (s.setRaised es).setSchedule sch := by
  obtain ⟨sch, e⟩ := s.choose_state (s.claims + pauses.toNat)
  have hvalid := nextClaim_index_valid hi
  unfold State.afterClaim
  rw [State.nextClaim, e] at hvalid ⊢
  rcases takeClaim_cases hvalid with ⟨k, ev, hk, ht⟩ | ⟨j, w, hw, -⟩
  · obtain ⟨hsrc, hdepth⟩ := h.events ev (List.mem_of_getElem? hk)
    refine ⟨s.raised.eraseIdx k, sch, List.eraseIdx_subset, ?_⟩
    have hm : s.cpl.matching ev.source ev.kind = [] := by
      rw [hsrc]; exact matching_of_uncoupled h.uncoupled _
    rw [ht]
    rcases takeEvent_cases ev ((s.setSchedule sch).setRaised ((s.setSchedule sch).raised.eraseIdx k)) with ⟨-, q⟩ | ⟨hd, -⟩
    · rw [q, State.setRaised_cpl, State.setSchedule_cpl, hm, List.map_nil, List.append_nil]; rfl
    · omega
  · rw [State.setSchedule_actions, h.actions] at hw; cases hw

theorem OnlyUncoupled.runChains (h : OnlyUncoupled p s) (pauses : Bool) :
    ∃ es sch, es ⊆ s.raised ∧ runChains pauses s = (s.setRaised es).setSchedule sch := by
  induction s using chain_induction (pauses := pauses) with
  | none s hc => exact ⟨s.raised, s.schedule, List.Subset.refl _, runChains_of_no_claims hc pauses⟩
  | pause s hc hi =>
    obtain ⟨sch, e⟩ := s.choose_state (s.claims + pauses.toNat)
    exact ⟨s.raised, sch, List.Subset.refl _, (runChains_pauses hc hi).trans e⟩
  | claim s hc hi ih =>
    obtain ⟨es, sch, hes, e⟩ := h.afterClaim hi
    rw [runChains_goes_on hc hi]
    rw [e] at ih ⊢
    obtain ⟨es', sch', hes', e'⟩ := ih (h.sub hes sch)
    exact ⟨es', sch', fun x hx => hes (hes' hx), e'⟩

/-- At the tick's end the table has taken all these events, and nothing else is changed. -/
theorem OnlyUncoupled.finish (h : OnlyUncoupled p s) : s.finish.unscheduled = s.unscheduled.setRaised [] := by
  obtain ⟨es, sch, -, e⟩ := h.runChains false
  have hf : s.finish = (s.setRaised es).setSchedule sch := (finish_of_whole h.whole).trans e
  have hes : es = [] := by
    have hcalm := finish_calm s
    rw [hf] at hcalm
    exact hcalm.raised
  rw [hf, hes]; rfl

theorem OnlyUncoupled.of_same {t : State} (h : OnlyUncoupled p s) (hs : t.unscheduled = s) : OnlyUncoupled p t := by
  rw [← hs] at h
  exact ⟨h.whole, h.actions, h.uncoupled, h.events⟩

end

/-- An undisturbed completion, with what goes on behind it and to the tick's end, comes to what it leads to, once the table has taken its
events. -/
theorem LeadsTo.resume_finish {u s : State} {p : ProbeId} (h : LeadsTo u s) (hu : OnlyUncoupled p u) :
    s.resume.finish.unscheduled = u.setRaised [] := by
  have hc := h.continued true
  have hq : OnlyUncoupled p (continueOccasion false (continueOccasion true s)) := hu.of_same hc.whole.same
  have hfin := hq.finish
  rw [hc.whole.same] at hfin
  unfold State.resume; dsimp only
  cases ho : (continueOccasion true s).occasion with
  | some o =>
    dsimp only [Option.isSome_some]
    rw [if_pos rfl, finish_eq, ← hfin, finish_eq, continueOccasion_idem]
  | none =>
    dsimp only [Option.isSome_none]
    rw [if_neg Bool.false_ne_true]
    rw [continueOccasion_of_none ho] at hq hfin
    obtain ⟨es, sch, hes, e⟩ := hq.runChains true
    change (runChains true (continueOccasion true s)).finish.unscheduled = _
    rw [e, (hq.sub hes sch).finish]
    have hsame := hc.whole.same
    rw [continueOccasion_of_none ho] at hsame
    rw [← hsame]; rfl

end Sys2Proof.Machine
end

section
/-! SUPPORT. A window completion with room for its reports, from the accounting of its tick to the tick's end (R53, R57, R83, R147). -/

namespace Sys2Proof.Machine

/-! ### What a completion forms: its sample, its qualifier step, its record, its reports (R54, R55, R57) -/

section
variable (s : State) (p : ProbeId) (pl : Plan)

/-- Steps 3 and 4 of the completion that is due (R108, R114, R120). -/
def closingQualified : Qualified := (s.probe p).qual.complete pl (satInc (s.probe p).windowsDone) (closingSample s p pl).value

/-- The record after steps 1 to 4 (R54). -/
def closingRecord : Probe :=
  { s.probe p with
    lastSample := some (closingSample s p pl), windowsDone := satInc (s.probe p).windowsDone, qual := (closingQualified s p pl).qual
    windowOpen := false, acc := closingAccumulator s p pl
    edgeCount := if pl.kind = .span then pl.span else (s.probe p).edgeCount
    countdown := if pl.kind = .dropout then 0 else (s.probe p).countdown }

/-- The state after steps 1 to 4, with the measurement of the tick made. -/
def State.windowFormed : State := (s.setProbe p (closingRecord s p pl)).setMark p .made

/-- The reports of step 5. -/
def closingReports : List ReportBody :=
  selectedReports pl (closingQualified s p pl).result (sampleFlags pl (closingRecord s p pl) (closingSample s p pl))
    (closingSample s p pl).value (satInc (s.probe p).windowsDone)

/-- Step 6, where no report of step 5 was lost. -/
def closingOutcome : Option RunOutcome := runEndDecision pl (closingQualified s p pl).result false (satInc (s.probe p).windowsDone)

/-- The END report of step 7, where the run ends. -/
def endReports (pl : Plan) (pr : Probe) : Option RunOutcome → List ReportBody
  | none => []
  | some o => [endReport pl (pr.ended o) o false]

/-- Every report of the completion. -/
def closingBodies : List ReportBody := closingReports s p pl ++ endReports pl (closingRecord s p pl) (closingOutcome s p pl)

end

section
variable {s : State} {p : ProbeId} {pl : Plan}

/-- The accounting up to the point at which a window completes (R83, R85, R87, R89, R91, R98). -/
theorem measureBefore_of_completes (h : CompletesNow s p pl) :
    (measureBefore pl (pl.viewA s.lfe.lines) false s.timebase (s.probe p)).probe =
      { s.probe p with
        acc := closingAccumulator s p pl
        edgeCount := if pl.kind = .span then pl.span else (s.probe p).edgeCount
        countdown := if pl.kind = .dropout then 0 else (s.probe p).countdown } := by
  unfold CompletesNow at h
  unfold measureBefore closingAccumulator
  cases hk : pl.kind <;> simp only [hk] at h ⊢
  case levelTime => simp [Probe.tickWindow, h.1]
  case highTime => simp [Probe.tickWindow, h.1]
  case span =>
    obtain ⟨hopen, hrise, hspan⟩ := h
    simp [Probe.tickWindow, hopen, hrise, ← hspan]
  case dropout => cases hr : (pl.viewA s.lfe.lines).rising <;> simp [Probe.dropoutTick, hr] at h ⊢ <;> simp [h]
  all_goals rfl

/-- A measurement that completes a window makes steps 1 to 4 and offers the reports of step 5 (R53). -/
theorem measureTick_of_completes (hm : Measuring s p pl) (hc : CompletesNow s p pl) :
    measureTick p s =
      offerAndClose true p pl (closingQualified s p pl).result (closingReports s p pl) false (s.windowFormed p pl) := by
  rw [measureTick_complete hm hc, measureBefore_of_completes hc]
  unfold completeWindow; dsimp only
  rw [completionBodies_eq_selected, State.setMark_probe, State.probe_setProbe_self, State.setMark_setProbe, State.setProbe_setProbe]
  rfl

theorem probeMeasurement_of_completes (hm : Measuring s p pl) (hc : CompletesNow s p pl) :
    exec (.probeMeasurement p) s = .next
      (offerAndClose true p pl (closingQualified s p pl).result (closingReports s p pl) false (s.windowFormed p pl)).resume := by
  have e : measurementClaim p s = measureTick p s := if_pos hm.measurementDue
  rw [measureTick_of_completes hm hc] at e
  exact (probeClaim_of_whole hm.whole _).trans (congrArg (fun u : State => Host.Outcome.next u.resume) e)

/-- The two names of one claim (log 4). -/
theorem windowCompletion_of_completes (hm : Measuring s p pl) (hc : CompletesNow s p pl) :
    exec (.windowCompletion p) s = exec (.probeMeasurement p) s :=
  (probeClaim_of_whole hm.whole _).trans
    ((congrArg (fun u : State => Host.Outcome.next u.resume) (completionClaim_eq hm hc)).trans (probeClaim_of_whole hm.whole _).symm)

theorem windowFormed_probe : (s.windowFormed p pl).probe p = closingRecord s p pl := by
  rw [State.windowFormed, State.setMark_probe, State.probe_setProbe_self]

theorem selectedReports_length (pl : Plan) (result : QualResult) (flags : ReportFlags) (value : Sample32) (windowsDone : BitVec 24) :
    (selectedReports pl result flags value windowsDone).length ≤ 2 := by
  unfold selectedReports
  cases pl.reportSelect <;> cases result <;> simp

/-- A completion makes at most three reports: WINDOW, SETTLE or DRIFT, and END. -/
theorem closingBodies_length (s : State) (p : ProbeId) (pl : Plan) : (closingBodies s p pl).length ≤ 3 := by
  have h := selectedReports_length pl (closingQualified s p pl).result (sampleFlags pl (closingRecord s p pl) (closingSample s p pl))
    (closingSample s p pl).value (satInc (s.probe p).windowsDone)
  rw [closingBodies, List.length_append, closingReports]
  cases closingOutcome s p pl with
  | none => rw [endReports, List.length_nil]; omega
  | some o => rw [endReports, List.length_singleton]; omega

end

/-! ### The reports of a completion enqueued, its END report among them (R147) -/

section
variable {u : State} {p : ProbeId} {pl : Plan}

theorem allEnqueued_probe (u : State) (p : ProbeId) (bodies : List ReportBody) :
    (u.allEnqueued p bodies).probe p = { u.probe p with generated := (u.probe p).generated + BitVec.ofNat 32 bodies.length } := by
  simp [State.allEnqueued, State.probe]

theorem allEnqueued_append (u : State) (p : ProbeId) (as bs : List ReportBody) :
    (u.allEnqueued p as).allEnqueued p bs = u.allEnqueued p (as ++ bs) := by
  induction as generalizing u with
  | nil => rw [allEnqueued_nil]; rfl
  | cons a as ih => rw [allEnqueued_cons, ih, List.cons_append, allEnqueued_cons]

theorem allEnqueued_probeTotal (u : State) (p : ProbeId) (bodies : List ReportBody) :
    (u.allEnqueued p bodies).rpq.probeTotal = u.rpq.probeTotal + bodies.length := by
  induction bodies generalizing u with
  | nil => rw [allEnqueued_nil]; rfl
  | cons b bs ih =>
    rw [allEnqueued_cons, ih, enqueueReport_probeTotal, withGenerated_rpq, List.length_cons]; omega

theorem allEnqueued_waiting (u : State) (p : ProbeId) (bodies : List ReportBody) :
    (u.allEnqueued p bodies).rpq.waiting p = u.rpq.waiting p + bodies.length := by
  induction bodies generalizing u with
  | nil => rw [allEnqueued_nil]; rfl
  | cons b bs ih =>
    rw [allEnqueued_cons, ih, enqueueReport_waiting, withGenerated_rpq, if_pos rfl, List.length_cons]; omega

/-- The record of a completion that ends its run, or does not. -/
def Probe.closedWith (pr : Probe) : Option RunOutcome → Probe
  | none => pr
  | some o => pr.ended o

/-- The state after steps 5 to 7 of a completion with room for its reports `bodies`. -/
def State.closed (u : State) (p : ProbeId) (outcome : Option RunOutcome) (bodies : List ReportBody) : State :=
  (u.allEnqueued p bodies).setProbe p (((u.allEnqueued p bodies).probe p).closedWith outcome)

/-- The run may end before its reports are enqueued or after. -/
theorem allEnqueued_ended (u : State) (p : ProbeId) (o : RunOutcome) (bodies : List ReportBody) :
    (u.setProbe p ((u.probe p).ended o)).allEnqueued p bodies = u.closed p (some o) bodies := by
  rw [State.closed, allEnqueued_probe]
  simp [State.allEnqueued, State.setProbe, State.probe, Probe.closedWith, Probe.ended]

/-- With room and an exhausted schedule a completion makes all its reports, and steps 8 and 9 follow (R53, R147). -/
theorem offerAndClose_with_room {result : QualResult} {bodies : List ReportBody} (hs : u.schedule = [])
    (hp : (u.probe p).plan = some pl) {outcome : Option RunOutcome}
    (ho : runEndDecision pl result false (u.probe p).windowsDone = outcome)
    (ht : u.rpq.probeTotal + (bodies ++ endReports pl (u.probe p) outcome).length ≤ 60)
    (hq : u.rpq.waiting p + (bodies ++ endReports pl (u.probe p) outcome).length ≤ pl.quota) :
    offerAndClose false p pl result bodies false u =
      finishWindow p pl result outcome.isSome (u.closed p outcome (bodies ++ endReports pl (u.probe p) outcome)) := by
  rw [List.length_append] at ht hq
  have hprobe := allEnqueued_probe u p bodies
  have hoffer := offerReports_enqueued bodies false (.inr hs) hp (by omega) (by omega)
  rw [offerAndClose_whole (offerReports_whole _ _ _ _), hoffer]
  cases outcome with
  | none =>
    have hd : runEndDecision pl result false ((u.allEnqueued p bodies).probe p).windowsDone = none := by rw [hprobe]; exact ho
    rw [closeWindow_goes_on hd, endReports, List.append_nil, State.closed, Probe.closedWith, State.setProbe_self]; rfl
  | some o =>
    have hd : runEndDecision pl result false ((u.allEnqueued p bodies).probe p).windowsDone = some o := by rw [hprobe]; exact ho
    have hlen : (endReports pl (u.probe p) (some o)).length = 1 := rfl
    have hplan : (((u.allEnqueued p bodies).setProbe p (((u.allEnqueued p bodies).probe p).ended o)).probe p).plan = some pl := by
      rw [State.probe_setProbe_self, hprobe]; exact hp
    have hend := offerReports_enqueued (s := (u.allEnqueued p bodies).setProbe p (((u.allEnqueued p bodies).probe p).ended o))
      [endReport pl ((u.probe p).ended o) o false] false (.inr hs) hplan
      (by rw [State.setProbe_rpq, allEnqueued_probeTotal, List.length_singleton]; omega)
      (by rw [State.setProbe_rpq, allEnqueued_waiting, List.length_singleton]; omega)
    have hreport : endReport pl (((u.allEnqueued p bodies).probe p).ended o) o false = endReport pl ((u.probe p).ended o) o false := by
      rw [hprobe]; rfl
    rw [closeWindow_false_ends hd, endRun_eq, hreport]
    refine congrArg (finishWindow p pl result true) ((congrArg Offering.state hend).trans ?_)
    rw [allEnqueued_ended, State.closed, State.closed, allEnqueued_append]; rfl

end

/-! ### Steps 8 and 9 (R57, R60, R133) -/

/-- The kinds of the events of step 8, in order. -/
def completionKinds (result : QualResult) (ended : Bool) : List EventKind :=
  .window :: (match result with | .neither => [] | .becameTrue => [.settled] | .becameFalse => [.drift]) ++
    (if ended then [.runEnd] else [])

theorem completionEvents_eq (p : ProbeId) (result : QualResult) (ended : Bool) :
    completionEvents p result ended = (completionKinds result ended).map fun k => { source := p, kind := k, depth := 0 } := by
  cases result <;> cases ended <;> rfl

section
variable {s : State} {p : ProbeId} {new : Plan} {edges : List Sample32}

/-- A run that has ended with no commit pending raises the events of step 8 and nothing else. -/
theorem finishWindow_ended (h : s.pendingCommit p = none) (pl : Plan) (result : QualResult) :
    finishWindow p pl result true s = s.raise (completionEvents p result true) := by
  unfold finishWindow; dsimp only
  rw [swapPending_of_none h, Bool.not_true, Bool.false_and, if_neg Bool.false_ne_true]
  exact congrArg s.raise (List.append_nil _)

/-- A run that continues under its plan also makes the rest of the tick's accounting (R81). -/
theorem finishWindow_continues (h : s.pendingCommit p = none) (pl : Plan) (result : QualResult) :
    finishWindow p pl result false s = (s.raise (completionEvents p result false)).setProbe p
      (measureAfter pl (pl.viewA s.lfe.lines) (pl.viewB s.lfe.lines) true (s.probe p)) := by
  unfold finishWindow; dsimp only
  rw [swapPending_of_none h, h, Bool.not_false, Option.isNone_none, Bool.and_true, if_pos rfl]
  exact congrArg (fun es => (s.raise es).setProbe p _) (List.append_nil _)

/-- With a commit pending the swap stands in the place of the rest of the accounting (R60). -/
theorem finishWindow_of_commit (h : s.pendingCommit p = some (new, edges)) (pl : Plan) (result : QualResult) (ended : Bool) :
    finishWindow p pl result ended s =
      (swapPending p s).state.raise (completionEvents p result ended ++ (swapPending p s).events) := by
  unfold finishWindow; dsimp only
  rw [h, Option.isNone_some, Bool.and_false, if_neg Bool.false_ne_true]

theorem finishWindow_swaps_ended (h : s.pendingCommit p = some (new, edges)) (hr : (s.probe p).state ≠ .running) (pl : Plan)
    (result : QualResult) (ended : Bool) :
    finishWindow p pl result ended s =
      ((s.setProbe p { replanned (s.probe p) new edges with state := .ready }).setStaging none).raise
        (completionEvents p result ended) := by
  rw [finishWindow_of_commit h, swapPending_of_idle h hr, List.append_nil]

/-- The new run of a swap begins at this tick (R60, R61). -/
theorem finishWindow_swaps_running (h : s.pendingCommit p = some (new, edges)) (hr : (s.probe p).state = .running) (pl : Plan)
    (result : QualResult) (ended : Bool) :
    finishWindow p pl result ended s =
      (startRun p 0 ((s.setProbe p (replanned (s.probe p) new edges)).setStaging none)).state.raise
        (completionEvents p result ended ++ [{ source := p, kind := .runStart, depth := 0 }]) := by
  rw [finishWindow_of_commit h, swapPending_of_running h hr]; rfl

end

theorem swapPending_events (p : ProbeId) (s : State) : ∀ e ∈ (swapPending p s).events, e.source = p ∧ e.depth = 0 := by
  intro ev hev
  rcases swapPending_cases p s with ⟨-, e⟩ | ⟨pl, es, -, ⟨-, e⟩ | ⟨-, e⟩⟩ <;> rw [e] at hev
  · cases hev
  · cases List.mem_singleton.1 hev; exact ⟨rfl, rfl⟩
  · cases hev

theorem swapPending_cpl (p : ProbeId) (s : State) : (swapPending p s).state.cpl = s.cpl := by
  rcases swapPending_cases p s with ⟨-, e⟩ | ⟨pl, es, -, ⟨-, e⟩ | ⟨-, e⟩⟩ <;> rw [e]
  · rfl
  · exact startRun_cpl _ _ _
  · rfl

/-- After steps 8 and 9 of a completion with nothing waiting before, only events of its probe wait (R133). -/
theorem finishWindow_onlyUncoupled {s : State} {p : ProbeId} (ho : s.occasion = none) (ha : s.actions = []) (hr : s.raised = [])
    (hu : s.uncoupled p) (pl : Plan) (result : QualResult) (ended : Bool) : OnlyUncoupled p (finishWindow p pl result ended s) := by
  have hw := swapPending_waitsKept p s
  have hcpl := swapPending_cpl p s
  have hevents : ∀ e ∈ completionEvents p result ended ++ (swapPending p s).events, e.source = p ∧ e.depth < 4 := by
    intro e he
    rcases List.mem_append.1 he with he | he
    · rw [completionEvents_eq] at he
      obtain ⟨k, -, rfl⟩ := List.mem_map.1 he
      exact ⟨rfl, Nat.zero_lt_succ 3⟩
    · obtain ⟨hs, hd⟩ := swapPending_events p s e he
      exact ⟨hs, by omega⟩
  have hq : OnlyUncoupled p ((swapPending p s).state.raise (completionEvents p result ended ++ (swapPending p s).events)) :=
    ⟨hw.occasion.trans ho, hw.actions.trans ha, fun i c hc => hu i c (by rw [← hcpl]; exact hc), fun e he => by
      rw [State.raise_raised, hw.raised, hr, List.nil_append] at he
      exact hevents e he⟩
  unfold finishWindow; dsimp only
  split
  · exact ⟨hq.whole, hq.actions, hq.uncoupled, hq.events⟩
  · exact hq

/-! ### The completion whole, to the tick's end -/

section
variable {s : State} {p : ProbeId} {pl : Plan}

/-- A completion that nothing disturbs and whose reports have room: where the claims behind it lead at the tick's end. -/
theorem completion_finished (hm : Measuring s p pl) (hc : CompletesNow s p pl) (hu : s.uncoupled p) (hr : s.raised = [])
    (ha : s.actions = []) (hd : s.undisturbed) (ht : s.rpq.probeTotal + 3 ≤ 60) (hq : s.rpq.waiting p + 3 ≤ pl.quota) :
    ∃ v, exec (.probeMeasurement p) s = .next v ∧ (s.schedule = [] → v.finish = v) ∧ Calm v.finish ∧
      v.finish.unscheduled = (finishWindow p pl (closingQualified s p pl).result (closingOutcome s p pl).isSome
        ((s.windowFormed p pl).unscheduled.closed p (closingOutcome s p pl) (closingBodies s p pl))).setRaised [] := by
  have hprobe : (s.windowFormed p pl).unscheduled.probe p = closingRecord s p pl := windowFormed_probe
  have hlen := closingBodies_length s p pl
  have hwhole : offerAndClose false p pl (closingQualified s p pl).result (closingReports s p pl) false
      (s.windowFormed p pl).unscheduled = finishWindow p pl (closingQualified s p pl).result (closingOutcome s p pl).isSome
        ((s.windowFormed p pl).unscheduled.closed p (closingOutcome s p pl) (closingBodies s p pl)) := by
    have h := offerAndClose_with_room (u := (s.windowFormed p pl).unscheduled) (p := p) (pl := pl)
      (result := (closingQualified s p pl).result) (bodies := closingReports s p pl) (outcome := closingOutcome s p pl) rfl
    rw [hprobe] at h
    exact h hm.plan rfl (by change s.rpq.probeTotal + (closingBodies s p pl).length ≤ 60; omega)
      (by change s.rpq.waiting p + (closingBodies s p pl).length ≤ pl.quota; omega)
  have htracks : Tracks (s.windowFormed p pl).unscheduled (s.windowFormed p pl) :=
    State.undisturbed.tracks (s := s.windowFormed p pl) hd
  have hleads := offerAndClose_leadsTo htracks hm.whole (by rw [windowFormed_probe]; exact hm.running)
    (by rw [windowFormed_probe]; exact hm.plan) true (closingQualified s p pl).result (closingReports s p pl) false
  rw [hwhole] at hleads
  refine ⟨_, probeMeasurement_of_completes hm hc, fun hs => ?_, finish_calm _, hleads.resume_finish (finishWindow_onlyUncoupled ?_ ?_ ?_ ?_ _ _ _)⟩
  · exact State.finish_of_calm (resume_calm (offerAndClose_exhausted true _ _ _ _ _ (s := s.windowFormed p pl) hs))
  · exact hm.whole
  · exact ha
  · exact hr
  · exact hu

end

end Sys2Proof.Machine
end

section
/-! SUPPORT. O14 and O24: what a completion comes to at the tick's end, and the swap of a pending commit with it (R53, R57, R60, R61). -/

namespace Sys2Proof.Machine

/-! ### The rest of the tick's accounting, by kind (R85, R87, R89, R91, R98) -/

/-- A counting step writes the accumulator and quad_errors. -/
theorem Probe.countStep_eq (pr : Probe) (pl : Plan) (a : View) (b : Option View) :
    pr.countStep pl a b = { pr with acc := (pr.countStep pl a b).acc, quadErrors := (pr.countStep pl a b).quadErrors } := by
  unfold Probe.countStep
  split
  · split <;> rfl
  · split <;> rfl
  · split
    · rfl
    · split
      · rfl
      · split <;> rfl
  all_goals rfl

/-- And it reads nothing else of the record. -/
theorem Probe.countStep_congr {x y : Probe} (ha : x.acc = y.acc) (hq : x.quadErrors = y.quadErrors) (pl : Plan) (a : View)
    (b : Option View) :
    (x.countStep pl a b).acc = (y.countStep pl a b).acc ∧ (x.countStep pl a b).quadErrors = (y.countStep pl a b).quadErrors := by
  unfold Probe.countStep
  split
  · split <;> simp [ha, hq]
  · split <;> simp [ha, hq]
  · split
    · exact ⟨ha, hq⟩
    · split
      · simp [ha, hq]
      · split <;> simp [ha, hq]
  all_goals exact ⟨ha, hq⟩

section
variable {pl : Plan} {a : View} {b : Option View} {pr : Probe} {completed : Bool}

theorem measureAfter_levelTime (hk : pl.kind = .levelTime) (he : a.edge = true) :
    measureAfter pl a b completed pr = { pr with windowOpen := true, acc := .cleared, levelHigh := a.now } := by
  unfold measureAfter; rw [hk]; exact if_pos he

theorem measureAfter_highTime (hk : pl.kind = .highTime) (hr : a.rising = false) : measureAfter pl a b completed pr = pr := by
  unfold measureAfter; rw [hk]; dsimp only; rw [hr]; exact if_neg Bool.false_ne_true

theorem measureAfter_span (hk : pl.kind = .span) (hr : a.rising = true) (ho : pr.windowOpen = false) :
    measureAfter pl a b completed pr = { pr with windowOpen := true, acc := .cleared, edgeCount := 0 } := by
  unfold measureAfter; rw [hk]; dsimp only; rw [hr, ho]; exact if_pos rfl

theorem measureAfter_counting (hk : pl.kind = .count ∨ pl.kind = .updown ∨ pl.kind = .quad) :
    measureAfter pl a b true pr =
      ({ pr with acc := .cleared, nextBoundary := pr.nextBoundary + pl.window.setWidth 48 } : Probe).countStep pl a b := by
  unfold measureAfter
  rcases hk with hk | hk | hk <;> rw [hk] <;> rfl

theorem measureAfter_dropout (hk : pl.kind = .dropout) : measureAfter pl a b true pr = { pr with countdown := pl.window } := by
  unfold measureAfter; rw [hk]; exact if_pos rfl

end

theorem View.rising_of_falling {a : View} (h : a.falling = true) : a.rising = false := by
  unfold View.falling at h
  unfold View.rising
  cases hn : a.now <;> simp [hn] at h ⊢

/-! ### The state at the end of a tick whose completion nothing disturbs -/

theorem State.setMark_of_mark {s : State} {p : ProbeId} {m : TickMark} (h : s.mark p = m) : s.setMark p m = s := by
  subst h
  simp [State.setMark, State.mark]

/-- A run start whose tick is measured already writes the record alone (R51). -/
theorem startRun_of_made {s : State} {p : ProbeId} {pl : Plan} (hp : (s.probe p).plan = some pl) (hs : s.lfe.stepped = true)
    (hm : s.mark p = .made) (depth : Nat) :
    (startRun p depth s).state = s.setProbe p (firstTick pl s.lfe.lines (newRun (s.probe p) pl s.timebase)) := by
  rw [startRun_after_step hp hs]
  exact State.setMark_of_mark (s := s.setProbe p _) hm

/-- A swap behind a completion begins the new run at a tick that is measured already (R60, R61). -/
theorem finishWindow_swaps_measured {s : State} {p : ProbeId} {new : Plan} {edges : List Sample32}
    (h : s.pendingCommit p = some (new, edges)) (hr : (s.probe p).state = .running) (hs : s.lfe.stepped = true)
    (hm : s.mark p = .made) (pl : Plan) (result : QualResult) (ended : Bool) :
    finishWindow p pl result ended s =
      ((s.setProbe p (firstTick new s.lfe.lines (newRun (replanned (s.probe p) new edges) new s.timebase))).setStaging none).raise
        (completionEvents p result ended ++ [{ source := p, kind := .runStart, depth := 0 }]) := by
  have hnew := startRun_of_made (s := (s.setProbe p (replanned (s.probe p) new edges)).setStaging none) (p := p) (pl := new)
    (by rw [State.setStaging_probe, State.probe_setProbe_self]; rfl) hs hm 0
  rw [State.setStaging_probe, State.probe_setProbe_self] at hnew
  rw [finishWindow_swaps_running h hr, hnew]
  exact congrArg (fun u : State => (u.setStaging none).raise _) (State.setProbe_setProbe s p (replanned (s.probe p) new edges) _)

theorem closed_setProbe (u : State) (p : ProbeId) (outcome : Option RunOutcome) (bodies : List ReportBody) (x : Probe) :
    (u.closed p outcome bodies).setProbe p x = (u.allEnqueued p bodies).setProbe p x := State.setProbe_setProbe _ _ _ _

section
variable (s : State) (p : ProbeId) (pl : Plan)

/-- The record after step 7, its reports made. -/
def closedRecord : Probe :=
  { closingRecord s p pl with
    generated := (s.probe p).generated + BitVec.ofNat 32 (closingBodies s p pl).length }.closedWith (closingOutcome s p pl)

/-- The tick's end, schedule apart: the reports of the completion enqueued, `x` the record that steps 8 and 9 leave, `stg` what is
staged, and no event waiting. -/
def State.completed (stg : Option Staging) (x : Probe) : State :=
  ((((s.windowFormed p pl).unscheduled.allEnqueued p (closingBodies s p pl)).setProbe p x).setStaging stg).setRaised []

end

section
variable {s t : State} {p : ProbeId} {pl new : Plan} {edges : List Sample32} {stg : Option Staging} {x : Probe}

theorem closed_probe :
    ((s.windowFormed p pl).unscheduled.closed p (closingOutcome s p pl) (closingBodies s p pl)).probe p = closedRecord s p pl := by
  have h : (s.windowFormed p pl).unscheduled.probe p = closingRecord s p pl := windowFormed_probe
  rw [State.closed, State.probe_setProbe_self, allEnqueued_probe, h]; rfl

/-- What every completion that nothing disturbs comes to, but for its probe's record (R53, R147). -/
structure CompletionFrame (s t : State) (p : ProbeId) (pl : Plan) (stg : Option Staging) : Prop where
  entries : t.rpq.entries =
    s.rpq.entries ++ reportsOf p (s.probe p).generation s.timebase s.rpq.lostBefore[p.val] (closingBodies s p pl)
  lostBefore : t.rpq.lostBefore[p.val] = if closingBodies s p pl = [] then s.rpq.lostBefore[p.val] else 0
  credits : t.rpq.credits = s.rpq.credits
  systemLost : t.rpq.systemLost = s.rpq.systemLost
  others : ∀ q : ProbeId, q ≠ p → t.probe q = s.probe q ∧ t.rpq.lostBefore[q.val] = s.rpq.lostBefore[q.val] ∧ t.mark q = s.mark q
  mark : t.mark p = .made
  timebase : t.timebase = s.timebase
  lfe : t.lfe = s.lfe
  staging : t.staging = stg
  cpl : t.cpl = s.cpl
  hli : t.hli = s.hli
  pending : t.pending = s.pending

theorem completed_probe (h : t.unscheduled = s.completed p pl stg x) : t.probe p = x := by
  change t.unscheduled.probe p = x
  rw [h]; exact State.probe_setProbe_self _ _ _

theorem completed_frame (h : t.unscheduled = s.completed p pl stg x) : CompletionFrame s t p pl stg := by
  have field {α : Type} (f : State → α) : f t.unscheduled = f (s.completed p pl stg x) := congrArg f h
  have hrpq : t.rpq = ((s.windowFormed p pl).unscheduled.allEnqueued p (closingBodies s p pl)).rpq := field State.rpq
  have hlost : t.rpq.lostBefore =
      if closingBodies s p pl = [] then s.rpq.lostBefore else s.rpq.lostBefore.set p.val 0 := by rw [hrpq]; rfl
  have hmark (q : ProbeId) : t.mark q = (s.setMark p .made).mark q := field fun u => u.mark q
  refine
    { entries := ?_, lostBefore := ?_, credits := field fun u => u.rpq.credits
      systemLost := field fun u => u.rpq.systemLost, others := fun q hq => ⟨?_, ?_, ?_⟩
      mark := (hmark p).trans (State.mark_setMark_self _ _ _), timebase := field State.timebase, lfe := field State.lfe
      staging := field State.staging, cpl := field State.cpl, hli := field State.hli
      pending := field State.pending }
  · have hprobe : (s.windowFormed p pl).unscheduled.probe p = closingRecord s p pl := windowFormed_probe
    rw [hrpq, State.allEnqueued, hprobe]; rfl
  · rw [hlost]
    split
    · rfl
    · exact Vector.getElem_set_self _
  · have hne : q.val ≠ p.val := fun e => hq (Fin.ext e)
    have hk : t.probe q = _ := field fun u => u.probe q
    rw [hk]
    exact (State.probe_setProbe_ne _ _ hq).trans <| (State.probe_setProbe_ne _ _ hq).trans (State.probe_setProbe_ne _ _ hq)
  · rw [hlost]
    split
    · rfl
    · exact Vector.getElem_set_ne _ _ (fun e => hq (Fin.ext e.symm))
  · rw [hmark, State.mark_setMark, if_neg hq]

/-! ### Steps 8 and 9 of that completion, by what is pending and whether the run ended (R57, R60) -/

/-- The completion that nothing disturbs and whose reports have room comes to `x` and `stg` at the tick's end. -/
def ComesTo (s : State) (p : ProbeId) (pl : Plan) (stg : Option Staging) (x : Probe) : Prop :=
  ∃ v, exec (.probeMeasurement p) s = .next v ∧ (s.schedule = [] → v.finish = v) ∧ Calm v.finish ∧
    v.finish.unscheduled = s.completed p pl stg x

end

/-- A completion of `p` under `pl` that nothing disturbs, with room for its reports and nothing waiting. -/
structure Undisturbed (s : State) (p : ProbeId) (pl : Plan) : Prop where
  measuring : Measuring s p pl
  completes : CompletesNow s p pl
  uncoupled : s.uncoupled p
  raised : s.raised = []
  actions : s.actions = []
  undisturbed : s.undisturbed
  total : s.rpq.probeTotal + 3 ≤ 60
  waiting : s.rpq.waiting p + 3 ≤ pl.quota

section
variable {s : State} {p : ProbeId} {pl new : Plan} {edges : List Sample32}

/-- Where steps 8 and 9 lead from the closed window, the completion comes to. -/
theorem Undisturbed.comesTo (h : Undisturbed s p pl) {stg : Option Staging} {x : Probe}
    (hf : (finishWindow p pl (closingQualified s p pl).result (closingOutcome s p pl).isSome
        ((s.windowFormed p pl).unscheduled.closed p (closingOutcome s p pl) (closingBodies s p pl))).setRaised [] =
      s.completed p pl stg x) : ComesTo s p pl stg x := by
  rw [ComesTo, ← hf]
  exact completion_finished h.measuring h.completes h.uncoupled h.raised h.actions h.undisturbed h.total h.waiting

theorem closed_pendingCommit :
    ((s.windowFormed p pl).unscheduled.closed p (closingOutcome s p pl) (closingBodies s p pl)).pendingCommit p =
      s.pendingCommit p := pendingCommit_congr rfl p

theorem closedRecord_of_continues (h : closingOutcome s p pl = none) :
    closedRecord s p pl = { closingRecord s p pl with
      generated := (s.probe p).generated + BitVec.ofNat 32 (closingBodies s p pl).length } := by
  rw [closedRecord, h]; rfl

theorem closedRecord_of_ends {o : RunOutcome} (h : closingOutcome s p pl = some o) :
    closedRecord s p pl = { closingRecord s p pl with
      generated := (s.probe p).generated + BitVec.ofNat 32 (closingBodies s p pl).length }.ended o := by
  rw [closedRecord, h]; rfl

/-- The run continues under its plan, which makes the rest of the tick's accounting. -/
theorem Undisturbed.continues (h : Undisturbed s p pl) (hc : s.pendingCommit p = none) (ho : closingOutcome s p pl = none) :
    ComesTo s p pl s.staging
      (measureAfter pl (pl.viewA s.lfe.lines) (pl.viewB s.lfe.lines) true (closedRecord s p pl)) := by
  refine h.comesTo ?_
  have hclosed := closed_probe (s := s) (p := p) (pl := pl)
  have hcommit := (closed_pendingCommit (pl := pl)).trans hc
  rw [ho] at hclosed hcommit ⊢
  rw [Option.isSome_none, finishWindow_continues hcommit, hclosed]
  have hwrite := congrArg (fun u : State => u.setRaised []) (closed_setProbe (s.windowFormed p pl).unscheduled p none
    (closingBodies s p pl) (measureAfter pl (pl.viewA s.lfe.lines) (pl.viewB s.lfe.lines) true (closedRecord s p pl)))
  exact hwrite

theorem Undisturbed.ends (h : Undisturbed s p pl) (hc : s.pendingCommit p = none) {o : RunOutcome}
    (ho : closingOutcome s p pl = some o) : ComesTo s p pl s.staging (closedRecord s p pl) := by
  refine h.comesTo ?_
  have hclosed := closed_probe (s := s) (p := p) (pl := pl)
  have hcommit := (closed_pendingCommit (pl := pl)).trans hc
  rw [State.closed, State.probe_setProbe_self] at hclosed
  rw [ho] at hclosed hcommit ⊢
  rw [Option.isSome_some, finishWindow_ended hcommit, State.closed, hclosed]; rfl

/-- A run that ended leaves its probe READY under the plan of the pending commit (R60). -/
theorem Undisturbed.swapsToReady (h : Undisturbed s p pl) (hc : s.pendingCommit p = some (new, edges)) {o : RunOutcome}
    (ho : closingOutcome s p pl = some o) :
    ComesTo s p pl none { replanned (closedRecord s p pl) new edges with state := .ready } := by
  refine h.comesTo ?_
  have hclosed := closed_probe (s := s) (p := p) (pl := pl)
  have hcommit := (closed_pendingCommit (pl := pl)).trans hc
  have hidle : (closedRecord s p pl).state ≠ .running := by
    rw [closedRecord_of_ends ho]; exact nofun
  rw [finishWindow_swaps_ended hcommit (by rw [hclosed]; exact hidle), hclosed, closed_setProbe]; rfl

/-- A run that did not end makes way for a new run under the plan of the pending commit (R60, R61). -/
theorem Undisturbed.swapsToRunning (h : Undisturbed s p pl) (hc : s.pendingCommit p = some (new, edges))
    (ho : closingOutcome s p pl = none) :
    ComesTo s p pl none (firstTick new s.lfe.lines (newRun (replanned (closedRecord s p pl) new edges) new s.timebase)) := by
  refine h.comesTo ?_
  have hclosed := closed_probe (s := s) (p := p) (pl := pl)
  have hcommit := (closed_pendingCommit (pl := pl)).trans hc
  have hrun : (closedRecord s p pl).state = .running := by
    rw [closedRecord_of_continues ho]; exact h.measuring.running
  rw [finishWindow_swaps_measured hcommit (by rw [hclosed]; exact hrun) h.measuring.stepped (State.mark_setMark_self s p .made),
    hclosed, closed_setProbe]
  rfl

end

end Sys2Proof.Machine
end

section
/-! SUPPORT. O24: the swap of a pending commit, alone and at a completion (R60, R61, R103). -/

namespace Sys2Proof.Machine

theorem raise_of_raised {s : State} {es : List Event} (h : s.raised = es) (new : List Event) :
    s.raise new = { s with raised := es ++ new } := by rw [← h]; rfl

/-! ### The SWAP command (log 4) -/

section
variable {s : State} {p : ProbeId} {new : Plan} {edges : List Sample32}

theorem exec_swap_of (ho : s.occasion = none) {t : State} (h : swapClaim p s = t) : exec (.swap p) s = .next t.resume :=
  (probeClaim_of_whole ho _).trans (congrArg (fun u : State => Host.Outcome.next u.resume) h)

theorem swapClaim_of_none (h : s.pendingCommit p = none) : swapClaim p s = s := by
  unfold swapClaim; rw [h]; exact if_pos rfl

/-- On an owner whose run has ended SWAP is the swap alone (R60). -/
theorem swapClaim_of_done (h : s.pendingCommit p = some (new, edges)) (hd : (s.probe p).state = .done) :
    swapClaim p s = (s.setProbe p { replanned (s.probe p) new edges with state := .ready }).setStaging none := by
  unfold swapClaim
  rw [h, Option.isNone_some, if_neg Bool.false_ne_true, if_pos hd, swapPending_of_idle h (by rw [hd]; decide)]
  exact State.raise_nil _

/-- On any other owner it is the completion. -/
theorem swapClaim_of_completion (h : s.pendingCommit p ≠ none) (hd : (s.probe p).state ≠ .done) :
    swapClaim p s = completionClaim p s := by
  unfold swapClaim
  rw [if_neg (by rwa [Option.isNone_iff_eq_none]), if_neg hd]

theorem completionClaim_of_not_due
    (h : (s.probe p).state ≠ .running ∨ s.lfe.stepped = false ∨ s.mark p ≠ .due ∨
      ∃ pl, (s.probe p).plan = some pl ∧ ¬ CompletesNow s p pl) : completionClaim p s = s := by
  rw [completionClaim, completionDue_eq_false h]; exact if_neg Bool.false_ne_true

/-- The three names of one claim (log 4). -/
theorem swap_of_completes {pl : Plan} (hm : Measuring s p pl) (hc : CompletesNow s p pl) (h : s.pendingCommit p ≠ none) :
    exec (.swap p) s = exec (.probeMeasurement p) s :=
  (exec_swap_of hm.whole ((swapClaim_of_completion h (by rw [hm.running]; decide)).trans (completionClaim_eq hm hc))).trans
    (probeClaim_of_whole hm.whole _).symm

end

/-! ### The record that the completion hands to the swap -/

/-- The reports as the statements write them. -/
theorem endReports_closingRecord (s : State) (p : ProbeId) (pl : Plan) (outcome : Option RunOutcome) :
    endReports pl (closingRecord s p pl) outcome =
      (match outcome with
        | none => []
        | some o =>
          [.runEnd { saturated := false, settled := (closingQualified s p pl).qual.settled, level := false
                     illegal := pl.kind == .quad && (s.probe p).quadErrors != 0 }
            (satInc (s.probe p).windowsDone) o (s.probe p).quadErrors (some (closingSample s p pl)) none]) := by
  cases outcome <;> rfl

/-- Settles O24: SWAP by what is pending and due, and the completion that carries it out by the run's outcome. -/
theorem swapInstallsThePendingPlan : Obligations.SwapInstallsThePendingPlan := by
  refine ⟨fun s p ho hn => exec_swap_of ho (swapClaim_of_none hn), fun s p new edges ho hc hd => exec_swap_of ho (swapClaim_of_done hc hd),
    fun s p ho hc hd hn => exec_swap_of ho ((swapClaim_of_completion hc hd).trans (completionClaim_of_not_due hn)),
    fun s p pl hm hc hn => swap_of_completes hm hc hn, fun s p pl new edges result ended hc => ?_,
    fun s p pl new edges hm hc hu hp hr ha hd ht hq => ?_⟩
  · intro raises kinds
    have hevents : completionEvents p result ended = kinds.map fun k => { source := p, kind := k, depth := 0 } :=
      completionEvents_eq p result ended
    refine ⟨fun hs => ?_, fun hs => ?_⟩
    · rw [finishWindow_swaps_ended hc hs, hevents]; rfl
    · rw [finishWindow_swaps_running hc hs, hevents, raise_of_raised (startRun_waitsKept _ _ _).raised]
      simp only [raises, List.map_append]; rfl
  · intro pr smp wd q outcome illegal flags endFlags bodies swapped
    have hall : Undisturbed s p pl := ⟨hm, hc, hu, hr, ha, hd, ht, hq⟩
    have hbodies : closingBodies s p pl = bodies := congrArg (closingReports s p pl ++ ·) (endReports_closingRecord s p pl outcome)
    have hswap := swap_of_completes hm hc (by rw [hp]; exact nofun)
    clear_value bodies
    subst hbodies
    cases ho : closingOutcome s p pl with
    | none =>
      obtain ⟨v, hv, -, -, hx⟩ := hall.swapsToRunning hp ho
      have hf := completed_frame hx
      have hrecord := completed_probe hx
      rw [closedRecord_of_continues ho] at hrecord
      exact ⟨v, hswap.trans hv, hv, hf.staging, fun _ => hrecord, fun hn => absurd ho hn, hf.entries, hf.lostBefore, hf.mark,
        fun x hne => (hf.others x hne).1, hf.timebase, hf.lfe, hf.cpl, hf.hli⟩
    | some o =>
      obtain ⟨v, hv, -, -, hx⟩ := hall.swapsToReady hp ho
      have hf := completed_frame hx
      have hrecord := completed_probe hx
      rw [closedRecord_of_ends ho] at hrecord
      exact ⟨v, hswap.trans hv, hv, hf.staging, fun hn => (by cases ho.symm.trans hn), fun _ => hrecord, hf.entries, hf.lostBefore,
        hf.mark, fun x hne => (hf.others x hne).1, hf.timebase, hf.lfe, hf.cpl, hf.hli⟩

end Sys2Proof.Machine
end

section
/-! SUPPORT. O14: a window completion whole (R53, R54, R57, R83, R87, R102, R147). -/

namespace Sys2Proof.Machine

section
variable {s : State} {p : ProbeId} {pl : Plan}

/-- The record that steps 8 and 9 leave of a run that continues under its plan. -/
def continuedRecord (s : State) (p : ProbeId) (pl : Plan) : Probe :=
  measureAfter pl (pl.viewA s.lfe.lines) (pl.viewB s.lfe.lines) true (closedRecord s p pl)

/-! Its working values, an equation per kind (R81, R82, R85, R87, R89, R98). -/

theorem continuedRecord_levelTime (hk : pl.kind = .levelTime) (hc : CompletesNow s p pl) :
    continuedRecord s p pl = { closedRecord s p pl with
      windowOpen := true, acc := .cleared, levelHigh := (pl.viewA s.lfe.lines).now } := by
  unfold CompletesNow at hc
  simp only [hk] at hc
  exact measureAfter_levelTime hk hc.2

theorem continuedRecord_highTime (hk : pl.kind = .highTime) (hc : CompletesNow s p pl) :
    continuedRecord s p pl = closedRecord s p pl := by
  unfold CompletesNow at hc
  simp only [hk] at hc
  exact measureAfter_highTime hk (View.rising_of_falling hc.2)

theorem continuedRecord_span (hk : pl.kind = .span) (hc : CompletesNow s p pl) (ho : closingOutcome s p pl = none) :
    continuedRecord s p pl = { closedRecord s p pl with windowOpen := true, acc := .cleared, edgeCount := 0 } := by
  unfold CompletesNow at hc
  simp only [hk] at hc
  exact measureAfter_span hk hc.2.1 (by rw [closedRecord_of_continues ho]; rfl)

/-- A counting run goes on with the step of this tick (R91). -/
theorem continuedRecord_counting (hk : pl.kind = .count ∨ pl.kind = .updown ∨ pl.kind = .quad) (ho : closingOutcome s p pl = none) :
    let step := ({ s.probe p with acc := .cleared } : Probe).countStep pl (pl.viewA s.lfe.lines) (pl.viewB s.lfe.lines)
    continuedRecord s p pl = { closedRecord s p pl with
      nextBoundary := (closedRecord s p pl).nextBoundary + pl.window.setWidth 48, acc := step.acc, quadErrors := step.quadErrors } := by
  intro step
  have hquad : (closedRecord s p pl).quadErrors = (s.probe p).quadErrors := by rw [closedRecord_of_continues ho]; rfl
  obtain ⟨hacc, herrors⟩ := Probe.countStep_congr (x := { closedRecord s p pl with
    acc := .cleared, nextBoundary := (closedRecord s p pl).nextBoundary + pl.window.setWidth 48 })
    (y := { s.probe p with acc := .cleared }) rfl hquad pl (pl.viewA s.lfe.lines) (pl.viewB s.lfe.lines)
  rw [continuedRecord, measureAfter_counting hk, Probe.countStep_eq, hacc, herrors]

theorem continuedRecord_dropout (hk : pl.kind = .dropout) :
    continuedRecord s p pl = { closedRecord s p pl with countdown := pl.window } := measureAfter_dropout hk

/-- What the completion leaves of the record whether the run ended or not (R54, R55). -/
structure FormedValues (s : State) (p : ProbeId) (pl : Plan) (x : Probe) : Prop where
  lastSample : x.lastSample = some (closingSample s p pl)
  windowsDone : x.windowsDone = satInc (s.probe p).windowsDone
  qual : x.qual = (closingQualified s p pl).qual
  plan : x.plan = (s.probe p).plan
  generation : x.generation = (s.probe p).generation
  runStart : x.runStart = (s.probe p).runStart
  armedFrom : x.armedFrom = (s.probe p).armedFrom
  startAt : x.startAt = (s.probe p).startAt
  generated : x.generated = (s.probe p).generated + BitVec.ofNat 32 (closingBodies s p pl).length
  transmitted : x.transmitted = (s.probe p).transmitted
  lost : x.lost = (s.probe p).lost

theorem closedRecord_formed : FormedValues s p pl (closedRecord s p pl) := by
  cases ho : closingOutcome s p pl with
  | none => rw [closedRecord_of_continues ho]; constructor <;> rfl
  | some o => rw [closedRecord_of_ends ho]; constructor <;> rfl

/-- The rest of the tick's accounting writes working values alone (R81). -/
theorem FormedValues.of_same {x y : Probe} (h : FormedValues s p pl x) (hs : SameButWorking x y) : FormedValues s p pl y :=
  have keep {α : Type} (f : Probe → α) := congrArg f hs
  ⟨(keep Probe.lastSample).trans h.lastSample, (keep Probe.windowsDone).trans h.windowsDone, hs.qual.trans h.qual,
    hs.plan.trans h.plan, hs.generation.trans h.generation, (keep Probe.runStart).trans h.runStart, hs.waits.1.trans h.armedFrom,
    hs.waits.2.trans h.startAt, (keep Probe.generated).trans h.generated, (keep Probe.transmitted).trans h.transmitted,
    (keep Probe.lost).trans h.lost⟩

theorem continuedRecord_formed : FormedValues s p pl (continuedRecord s p pl) :=
  closedRecord_formed.of_same (measureAfter_same _ _ _ _ _)

/-- What the kind of a run that continues does with the rest of the tick (R81, R85, R87, R89, R91, R98). -/
structure ContinuedValues (s : State) (p : ProbeId) (pl : Plan) (x : Probe) : Prop where
  running : x.state = .running
  lastOutcome : x.lastOutcome = (s.probe p).lastOutcome
  opened : pl.kind = .levelTime ∨ pl.kind = .span → x.windowOpen = true ∧ x.acc = .cleared
  levelHigh : x.levelHigh = if pl.kind = .levelTime then (pl.viewA s.lfe.lines).now else (s.probe p).levelHigh
  edgeCount : x.edgeCount = if pl.kind = .span then 0 else (s.probe p).edgeCount
  countdown : x.countdown = if pl.kind = .dropout then pl.window else (s.probe p).countdown
  uncounted : pl.kind = .levelTime ∨ pl.kind = .highTime ∨ pl.kind = .span ∨ pl.kind = .dropout →
    x.quadErrors = (s.probe p).quadErrors ∧ x.nextBoundary = (s.probe p).nextBoundary
  highTime : pl.kind = .highTime → x.windowOpen = false ∧ x.acc = closingAccumulator s p pl
  dropout : pl.kind = .dropout → x.windowOpen = false ∧ x.acc = closingAccumulator s p pl
  counting : pl.kind = .count ∨ pl.kind = .updown ∨ pl.kind = .quad →
    let step := ({ s.probe p with acc := .cleared } : Probe).countStep pl (pl.viewA s.lfe.lines) (pl.viewB s.lfe.lines)
    x.windowOpen = false ∧ x.nextBoundary = (s.probe p).nextBoundary + pl.window.setWidth 48 ∧ x.acc = step.acc ∧
      x.quadErrors = step.quadErrors

theorem continuedRecord_values (h : (s.probe p).state = .running) (hc : CompletesNow s p pl) (ho : closingOutcome s p pl = none) :
    ContinuedValues s p pl (continuedRecord s p pl) := by
  have hclosed := closedRecord_of_continues ho
  have hcount (hk : pl.kind = .count ∨ pl.kind = .updown ∨ pl.kind = .quad) :
      ContinuedValues s p pl (continuedRecord s p pl) := by
    rw [continuedRecord_counting hk ho, hclosed]
    rcases hk with hk | hk | hk <;> constructor <;> simp [closingRecord, hk, h]
  cases hk : pl.kind with
  | levelTime => rw [continuedRecord_levelTime hk hc, hclosed]; constructor <;> simp [closingRecord, hk, h]
  | highTime => rw [continuedRecord_highTime hk hc, hclosed]; constructor <;> simp [closingRecord, hk, h]
  | span => rw [continuedRecord_span hk hc ho, hclosed]; constructor <;> simp [closingRecord, hk, h]
  | count => exact hcount (.inl hk)
  | updown => exact hcount (.inr (.inl hk))
  | quad => exact hcount (.inr (.inr hk))
  | dropout => rw [continuedRecord_dropout hk, hclosed]; constructor <;> simp [closingRecord, hk, h]

end

/-- Settles O14: the command by `measureTick_of_completes`, steps 8 and 9 by `finishWindow_ended` and `finishWindow_continues`, and the whole
by `completed_frame` with the record of its kind. -/
theorem windowCompletionIsOneOperation : Obligations.WindowCompletionIsOneOperation := by
  refine ⟨fun s p ho hn => ?_, fun s p pl hm hc => ⟨probeMeasurement_of_completes hm hc, windowCompletion_of_completes hm hc⟩,
    fun s p pl result hn => ⟨?_, ?_⟩, fun s p pl hm hc hu hp hr ha hd ht hq => ?_⟩
  · exact (probeClaim_of_whole ho _).trans (congrArg (fun u : State => Host.Outcome.next u.resume) (completionClaim_of_not_due hn))
  · rw [finishWindow_ended hn, completionEvents_eq]; rfl
  · refine ⟨measureAfter pl (pl.viewA s.lfe.lines) (pl.viewB s.lfe.lines) true (s.probe p), ?_,
      measureAfter_levelTime, measureAfter_highTime, measureAfter_span, measureAfter_counting, measureAfter_dropout⟩
    have hkinds : completionKinds result false = _ := List.append_nil _
    rw [finishWindow_continues hn, completionEvents_eq, hkinds]; rfl
  · intro pr smp wd q outcome illegal flags endFlags bodies
    have hall : Undisturbed s p pl := ⟨hm, hc, hu, hr, ha, hd, ht, hq⟩
    have hbodies : closingBodies s p pl = bodies := congrArg (closingReports s p pl ++ ·) (endReports_closingRecord s p pl outcome)
    clear_value bodies
    subst hbodies
    have hname := windowCompletion_of_completes hm hc
    cases ho : closingOutcome s p pl with
    | none =>
      obtain ⟨v, hv, hfin, hcalm, hx⟩ := hall.continues hp ho
      have hf := completed_frame hx
      have hrecord : v.finish.probe p = continuedRecord s p pl := completed_probe hx
      have hformed := continuedRecord_formed (s := s) (p := p) (pl := pl)
      have hvalues := continuedRecord_values hm.running hc ho
      rw [← hrecord] at hformed hvalues
      exact ⟨v, hv, hname.trans hv, hfin, hf.entries, hf.lostBefore, hf.credits, hf.systemLost, hf.others, hformed.lastSample,
        hformed.windowsDone, hformed.qual, hformed.plan.trans hm.plan, hformed.generation, hformed.runStart, hformed.armedFrom,
        hformed.startAt, hformed.generated, hformed.transmitted, hformed.lost, hf.mark, fun o h => (by cases ho.symm.trans h),
        fun _ => ⟨hvalues.running, hvalues.lastOutcome, hvalues.opened, hvalues.levelHigh, hvalues.edgeCount, hvalues.countdown,
          hvalues.uncounted, hvalues.highTime, hvalues.dropout, hvalues.counting⟩,
        hf.timebase, hf.lfe, hf.staging, hf.cpl, hf.hli, hcalm, hf.pending⟩
    | some o =>
      obtain ⟨v, hv, hfin, hcalm, hx⟩ := hall.ends hp ho
      have hf := completed_frame hx
      have hrecord := completed_probe hx
      have hformed := closedRecord_formed (s := s) (p := p) (pl := pl)
      have hended := closedRecord_of_ends ho
      rw [← hrecord] at hformed hended
      refine ⟨v, hv, hname.trans hv, hfin, hf.entries, hf.lostBefore, hf.credits, hf.systemLost, hf.others, hformed.lastSample,
        hformed.windowsDone, hformed.qual, hformed.plan.trans hm.plan, hformed.generation, hformed.runStart, hformed.armedFrom,
        hformed.startAt, hformed.generated, hformed.transmitted, hformed.lost, hf.mark, fun o' h => ?_,
        fun h => (by cases ho.symm.trans h), hf.timebase, hf.lfe, hf.staging, hf.cpl, hf.hli, hcalm, hf.pending⟩
      cases ho.symm.trans h
      rw [hended]
      exact ⟨rfl, rfl, rfl, rfl, rfl, rfl, rfl, rfl, rfl⟩

end Sys2Proof.Machine
end

section
/-! SUPPORT. The Line Front End's operations, each by its cases: the filter step of a line, runs of steps, LINE_SET and PROFILE_SET. -/

namespace Sys2Proof.Machine

/-! ### One filter step of a line, by its cases (R70) -/

section
variable {l : Line} {t : Nat} {pin : Bool}

theorem Line.step_of_agrees (h : pin = l.filtered) :
    l.step (some t) pin = { l with raw := pin, before := l.filtered, count := 0 } := if_pos h

theorem Line.step_of_counts (h : pin ≠ l.filtered) (ht : l.count + 1 < t) :
    l.step (some t) pin = { l with raw := pin, before := l.filtered, count := l.count + 1 } :=
  (if_neg h).trans (if_pos ht)

theorem Line.step_of_reaches (h : pin ≠ l.filtered) (ht : ¬ l.count + 1 < t) :
    l.step (some t) pin = { l with raw := pin, before := l.filtered, filtered := pin, count := 0 } :=
  (if_neg h).trans (if_neg ht)

/-- A level changes only in a step that differs and brings the count to the threshold (R70). -/
theorem Line.step_of_changes (h : (l.step (some t) pin).filtered ≠ l.filtered) : pin = !l.filtered ∧ t ≤ l.count + 1 := by
  by_cases hp : pin = l.filtered
  · exact absurd (congrArg Line.filtered (step_of_agrees hp)) h
  · by_cases ht : l.count + 1 < t
    · exact absurd (congrArg Line.filtered (step_of_counts hp ht)) h
    · exact ⟨Bool.eq_not_of_ne hp, Nat.not_lt.1 ht⟩

/-- Profile 0 takes every level at once, as a threshold of 1 does (R69, R70). -/
theorem Line.step_unfiltered : l.step none pin = l.step (some 1) pin := by
  by_cases hp : pin = l.filtered
  · rw [step_of_agrees hp, hp]; rfl
  · rw [step_of_reaches hp (by omega)]; rfl

theorem Line.step_before (threshold : Option Nat) : (l.step threshold pin).before = l.filtered := by
  cases threshold with
  | none => rfl
  | some t =>
    by_cases hp : pin = l.filtered
    · rw [step_of_agrees hp]
    · by_cases ht : l.count + 1 < t
      · rw [step_of_counts hp ht]
      · rw [step_of_reaches hp ht]

end

/-! ### A line after the step of a tick (R70, R72) -/

theorem LineFrontEnd.step_line_of_fresh {l : LineFrontEnd} (h : l.fresh = true) (pins : BitVec 16) (i : LineId) :
    (l.step pins).lines[i.val] = (l.lines[i.val]).firstStep (pins.getLsbD i.val) := (l.step_line pins i).trans (if_pos h)

theorem LineFrontEnd.step_line_of_not_fresh {l : LineFrontEnd} (h : l.fresh = false) (pins : BitVec 16) (i : LineId) :
    (l.step pins).lines[i.val] = (l.lines[i.val]).step (l.threshold (l.lines[i.val]).selection) (pins.getLsbD i.val) :=
  (l.step_line pins i).trans (if_neg (by rw [h]; exact Bool.false_ne_true))

/-! ### Successive filter steps of a line (R70) -/

theorem Line.steps_append_singleton (S : Nat) (l : Line) (pins : List Bool) (b : Bool) :
    l.steps S (pins ++ [b]) = (l.steps S pins).step (some S) b := List.foldl_append

theorem Line.steps_count_lt {S : Nat} (hS : 1 ≤ S) {l : Line} (hl : l.count < S) (pins : List Bool) :
    (l.steps S pins).count < S := by
  induction pins generalizing l with
  | nil => exact hl
  | cons b pins ih => exact ih (l.step_count_lt b hS)

/-- The count is that of the last levels which differ from the filtered one, with no other between (R70). -/
theorem Line.steps_count_run (S : Nat) {l : Line} (hl : l.count = 0) (pins : List Bool) :
    ∃ earlier, pins = earlier ++ List.replicate (l.steps S pins).count (!(l.steps S pins).filtered) := by
  induction pins using List.reverseRecOn with
  | nil => exact ⟨[], by simp [Line.steps, hl]⟩
  | append_singleton pins b ih =>
    obtain ⟨earlier, he⟩ := ih
    rw [steps_append_singleton]
    generalize l.steps S pins = x at he ⊢
    by_cases hp : b = x.filtered
    · exact ⟨pins ++ [b], by rw [step_of_agrees hp]; simp⟩
    · by_cases ht : x.count + 1 < S
      · refine ⟨earlier, ?_⟩
        rw [step_of_counts hp ht, List.replicate_succ', ← List.append_assoc, ← he, Bool.eq_not_of_ne hp]
      · exact ⟨pins ++ [b], by rw [step_of_reaches hp ht]; simp⟩

/-- A level changes with the last of at least S levels that all differ from it (R70). -/
theorem Line.run_of_steps_change {S : Nat} {l : Line} (hl : l.count = 0) {pins : List Bool} {b : Bool}
    (h : (l.steps S (pins ++ [b])).filtered ≠ (l.steps S pins).filtered) :
    ∃ earlier n, pins ++ [b] = earlier ++ List.replicate n b ∧ S ≤ n := by
  obtain ⟨earlier, he⟩ := steps_count_run S hl pins
  rw [steps_append_singleton] at h
  obtain ⟨hb, hS⟩ := step_of_changes h
  refine ⟨earlier, (l.steps S pins).count + 1, ?_, hS⟩
  rw [List.replicate_succ', ← List.append_assoc, hb, ← he]

/-- Fewer than S differing levels are counted and change nothing (R70). -/
theorem Line.steps_replicate_short {S n : Nat} {l : Line} (hl : l.count = 0) (hn : n < S) :
    (l.steps S (List.replicate n (!l.filtered))).filtered = l.filtered ∧
      (l.steps S (List.replicate n (!l.filtered))).count = n := by
  induction n with
  | zero => exact ⟨rfl, hl⟩
  | succ n ih =>
    obtain ⟨hf, hc⟩ := ih (Nat.lt_of_succ_lt hn)
    rw [List.replicate_succ', steps_append_singleton,
      step_of_counts (by rw [hf]; exact Bool.not_ne_self _) (by rw [hc]; exact hn)]
    exact ⟨hf, congrArg (· + 1) hc⟩

/-- S or more differing levels change the level, which then stays (R70). -/
theorem Line.steps_replicate_long {S n : Nat} {l : Line} (hS : 1 ≤ S) (hl : l.count = 0) (hn : S ≤ n) :
    (l.steps S (List.replicate n (!l.filtered))).filtered = !l.filtered := by
  induction n with
  | zero => omega
  | succ n ih =>
    rw [List.replicate_succ', steps_append_singleton]
    by_cases hlt : n < S
    · obtain ⟨hf, hc⟩ := steps_replicate_short hl hlt
      rw [step_of_reaches (by rw [hf]; exact Bool.not_ne_self _) (by omega)]
    · have hf := ih (Nat.not_lt.1 hlt)
      rw [step_of_agrees hf.symm, hf]

/-! ### LINE_SET and PROFILE_SET on the Line Front End (R73, R74) -/

/-- A line selects a profile, and its count is cleared (R73). -/
def LineFrontEnd.select (l : LineFrontEnd) (i : LineId) (sel : Fin 5) : LineFrontEnd :=
  { l with lines := l.lines.set i.val { l.lines[i.val] with selection := sel, count := 0 } i.isLt }

/-- Profile `k + 1` takes a threshold, and the counts of the lines that select it are cleared (R74). -/
def LineFrontEnd.setThreshold (l : LineFrontEnd) (k : Fin 4) (t : Nat) : LineFrontEnd :=
  { l with
    thresholds := l.thresholds.set k.val t k.isLt
    lines := mapIndexed (fun _ line => if line.selection.val = k.val + 1 then { line with count := 0 } else line) l.lines }

theorem LineFrontEnd.select_line_self (l : LineFrontEnd) (i : LineId) (sel : Fin 5) :
    (l.select i sel).lines[i.val] = { l.lines[i.val] with selection := sel, count := 0 } := Vector.getElem_set_self ..

theorem LineFrontEnd.select_line_ne (l : LineFrontEnd) {i j : LineId} (sel : Fin 5) (h : j ≠ i) :
    (l.select i sel).lines[j.val] = l.lines[j.val] :=
  Vector.getElem_set_ne i.isLt j.isLt fun e => h (Fin.ext e.symm)

theorem LineFrontEnd.setThreshold_line (l : LineFrontEnd) (k : Fin 4) (t : Nat) (i : LineId) :
    (l.setThreshold k t).lines[i.val] =
      if (l.lines[i.val]).selection.val = k.val + 1 then { l.lines[i.val] with count := 0 } else l.lines[i.val] :=
  getElem_mapIndexed _ _ i

theorem LineFrontEnd.setThreshold_self (l : LineFrontEnd) (k : Fin 4) (t : Nat) :
    (l.setThreshold k t).thresholds[k.val] = t := Vector.getElem_set_self ..

theorem LineFrontEnd.setThreshold_ne (l : LineFrontEnd) {k j : Fin 4} (t : Nat) (h : j ≠ k) :
    (l.setThreshold k t).thresholds[j.val] = l.thresholds[j.val] :=
  Vector.getElem_set_ne k.isLt j.isLt fun e => h (Fin.ext e.symm)

theorem LineFrontEnd.selecting_eq (l : LineFrontEnd) (k : Fin 4) :
    l.selecting k = (l.lines.toList.filter (fun x : Line => x.selection.val == k.val + 1)).length :=
  List.countP_eq_length_filter

/-- A threshold that PROFILE_SET takes (R74). -/
def ThresholdAllowed (t : Nat) : Prop := 1 ≤ t ∧ t ≤ 4095

theorem lineSet_of_badLine {line : Byte} (hl : lineOf line = none) (profile : Byte) (s : State) :
    lineSet line profile s = deny (.badValue 1) s := by
  unfold lineSet; rw [hl]

theorem lineSet_of_badProfile {line profile : Byte} {i : LineId} (hl : lineOf line = some i) (hp : selectionOf profile = none)
    (s : State) : lineSet line profile s = deny (.badValue 2) s := by
  unfold lineSet; rw [hl, hp]

theorem lineSet_of_fields {line profile : Byte} {i : LineId} {sel : Fin 5} (hl : lineOf line = some i)
    (hp : selectionOf profile = some sel) (s : State) :
    lineSet line profile s = answer (.lineSet i sel (s.lfe.lines[i.val]).filtered) (s.setLfe (s.lfe.select i sel)) := by
  unfold lineSet; rw [hl, hp]; rfl

theorem profileSet_of_badProfile {profile : Byte} (hp : profileOf profile = none) (threshold : BitVec 16) (s : State) :
    profileSet profile threshold s = deny (.badValue 1) s := by
  unfold profileSet; rw [hp]

theorem profileSet_of_badThreshold {profile : Byte} {k : Fin 4} (hp : profileOf profile = some k) {threshold : BitVec 16}
    (ht : ¬ ThresholdAllowed threshold.toNat) (s : State) : profileSet profile threshold s = deny (.badValue 2) s := by
  unfold profileSet; rw [hp]
  exact if_neg ht

theorem profileSet_of_fields {profile : Byte} {k : Fin 4} (hp : profileOf profile = some k) {threshold : BitVec 16}
    (ht : ThresholdAllowed threshold.toNat) (s : State) :
    profileSet profile threshold s =
      answer (.profileSet profile threshold (s.lfe.selecting k)) (s.setLfe (s.lfe.setThreshold k threshold.toNat)) := by
  unfold profileSet; rw [hp]
  exact if_pos ht

end Sys2Proof.Machine
end

section
/-! SUPPORT. O58: what each elementary change makes of the Line Front End, and that it keeps thresholds and counts bounded. -/

namespace Sys2Proof.Machine

/-! ### What each change makes of the Line Front End -/

/-- What a change can make of the Line Front End: nothing, the step of the tick, a selection, a threshold, the next tick, or the
reset. -/
inductive Refiltered (a : LineFrontEnd) : LineFrontEnd → Prop
  | kept : Refiltered a a
  | stepped (pins : BitVec 16) : Refiltered a (a.step pins)
  | selected (i : LineId) (sel : Fin 5) : Refiltered a (a.select i sel)
  | rethresholded (k : Fin 4) {t : Nat} (h : ThresholdAllowed t) : Refiltered a (a.setThreshold k t)
  | ticked : Refiltered a { a with stepped := false }
  | reset : Refiltered a .reset

theorem Refiltered.of_eq {a b : LineFrontEnd} (h : b = a) : Refiltered a b := h ▸ .kept

theorem LinesKept.refiltered {a b : LineFrontEnd} (h : LinesKept a b) : Refiltered a b := by
  rcases h with rfl | ⟨-, pins, rfl⟩
  · exact .kept
  · exact .stepped pins

theorem lineSet_refiltered (line profile : Byte) (s : State) : Refiltered s.lfe (lineSet line profile s).state.lfe := by
  cases hl : lineOf line with
  | none => rw [lineSet_of_badLine hl]; exact .kept
  | some i => cases hp : selectionOf profile with
    | none => rw [lineSet_of_badProfile hl hp]; exact .kept
    | some sel => rw [lineSet_of_fields hl hp]; exact .selected i sel

theorem profileSet_refiltered (profile : Byte) (threshold : BitVec 16) (s : State) :
    Refiltered s.lfe (profileSet profile threshold s).state.lfe := by
  cases hp : profileOf profile with
  | none => rw [profileSet_of_badProfile hp]; exact .kept
  | some k =>
    by_cases ht : ThresholdAllowed threshold.toNat
    · rw [profileSet_of_fields hp ht]; exact .rethresholded k ht
    · rw [profileSet_of_badThreshold hp ht]; exact .kept

theorem stageBegin_lfe (p : ProbeId) (lease : BitVec 32) (s : State) : (stageBegin p lease s).state.lfe = s.lfe := by
  unfold stageBegin; dsimp only
  split
  · rfl
  · split
    · rfl
    · split
      · split <;> rfl
      · rfl

theorem stageParams_lfe (p : ProbeId) (record : PlanRecord) (s : State) : (stageParams p record s).state.lfe = s.lfe := by
  rcases asOwner_cases p s _ with e | ⟨stage, -, e⟩ <;> rw [stageParams, e]
  dsimp only
  split
  · rfl
  · split <;> rfl

theorem stageEdges_lfe (p : ProbeId) (chunk : Byte) (edges : List Sample32) (s : State) :
    (stageEdges p chunk edges s).state.lfe = s.lfe := by
  rcases asOwner_cases p s _ with e | ⟨stage, -, e⟩ <;> rw [stageEdges, e]
  cases stage with
  | opened | complete | pending => rfl
  | edges =>
    dsimp only
    split
    · rfl
    · split
      · rfl
      · split <;> rfl

theorem coupleAdd_lfe (source : ProbeId) (event : Byte) (target : ProbeId) (action : Byte) (s : State) :
    (coupleAdd source event target action s).state.lfe = s.lfe := by
  unfold coupleAdd
  split
  · rfl
  · split
    · rfl
    · split
      · rfl
      · split
        · rfl
        · split <;> rfl

theorem coupleRemove_lfe (slot : Byte) (s : State) : (coupleRemove slot s).state.lfe = s.lfe := by
  unfold coupleRemove
  split
  · rfl
  · split <;> rfl

theorem BlockChange.refiltered {s t : State} (h : BlockChange s t) : Refiltered s.lfe t.lfe := by
  cases h with
  | filtered pins => exact .stepped pins
  | lineSet line profile => exact lineSet_refiltered line profile s
  | profileSet profile threshold => exact profileSet_refiltered profile threshold s
  | stageBegin => exact .of_eq (stageBegin_lfe _ _ _)
  | stageParams => exact .of_eq (stageParams_lfe _ _ _)
  | stageEdges => exact .of_eq (stageEdges_lfe _ _ _ _)
  | coupleAdd => exact .of_eq (coupleAdd_lfe _ _ _ _ _)
  | coupleRemove => exact .of_eq (coupleRemove_lfe _ _)
  | countAction slot fired => exact (countAction_keeps slot fired s).lfe.refiltered
  | schedule | commands | raised | actions | occasion | mark | commitPending | released | cut | credits | countersCleared
  | resetPending => exact .kept

theorem ClaimChange.refiltered {s t : State} (h : ClaimChange s t) : Refiltered s.lfe t.lfe := by
  cases h with
  | block h => exact h.refiltered
  | dequeued => exact s.dequeue_keeps.lfe.refiltered
  | systemReport r => exact (s.offerSystem_keeps r).lfe.refiltered
  | probeReset p => rw [resetProbe_eq]; exact .kept
  | record | swapped | installed | enqueued | lost => exact .kept

theorem transmitReply_lfe (s : State) : (transmitReply s).lfe = s.lfe := by
  unfold transmitReply; split <;> rfl

theorem Change.refiltered {s t : State} (h : Change s t) : Refiltered s.lfe t.lfe := by
  cases h with
  | claim h => exact h.refiltered
  | transmitted => exact .of_eq (transmitReply_lfe s)
  | link | replayed | replied => exact .kept
  | tick => exact .ticked
  | reset => exact .reset

/-! ### The bounds of thresholds and counts (R69, R70) -/

/-- The threshold of a selection, with 1 for profile 0, which takes every level at once (`Line.step_unfiltered`). -/
def LineFrontEnd.limit (l : LineFrontEnd) (sel : Fin 5) : Nat := (l.threshold sel).getD 1

theorem linesBounded_iff (l : LineFrontEnd) : LinesBounded l ↔
    (∀ k : Fin 4, ThresholdAllowed l.thresholds[k.val]) ∧
      ∀ i : LineId, (l.lines[i.val]).count < l.limit (l.lines[i.val]).selection := by
  have hline (i : LineId) (o : Option Nat) :
      (l.lines[i.val]).count < o.getD 1 ↔ (match o with
        | none => (l.lines[i.val]).count = 0
        | some t => (l.lines[i.val]).count < t) := by
    cases o with
    | none => exact Nat.lt_one_iff
    | some t => exact Iff.rfl
  constructor
  · rintro ⟨ht, hc⟩
    exact ⟨ht, fun i => (hline i _).2 (hc i)⟩
  · rintro ⟨ht, hc⟩
    exact ⟨ht, fun i => (hline i _).1 (hc i)⟩

theorem LineFrontEnd.limit_pos {l : LineFrontEnd} (h : ∀ k : Fin 4, ThresholdAllowed l.thresholds[k.val]) (sel : Fin 5) :
    1 ≤ l.limit sel := by
  unfold limit
  by_cases h0 : sel.val = 0
  · rw [threshold_zero l h0]; exact Nat.le_refl 1
  · obtain ⟨hlow, -⟩ := h ⟨sel.val - 1, by omega⟩
    rw [threshold_succ l (k := ⟨sel.val - 1, by omega⟩) (Nat.succ_pred_eq_of_ne_zero h0).symm]
    exact hlow

/-- Of the selections only profile `k + 1` sees a new threshold there (R74). -/
theorem LineFrontEnd.limit_setThreshold (l : LineFrontEnd) {k : Fin 4} {sel : Fin 5} (t : Nat) (h : sel.val ≠ k.val + 1) :
    (l.setThreshold k t).limit sel = l.limit sel := by
  unfold limit
  by_cases h0 : sel.val = 0
  · rw [threshold_zero _ h0, threshold_zero _ h0]
  · have hk : sel.val = (⟨sel.val - 1, by omega⟩ : Fin 4).val + 1 := (Nat.succ_pred_eq_of_ne_zero h0).symm
    rw [threshold_succ _ hk, threshold_succ _ hk, setThreshold_ne]
    intro e
    exact h (hk.trans (by rw [e]))

theorem Line.step_count_lt_getD (l : Line) {o : Option Nat} (pin : Bool) (h : 1 ≤ o.getD 1) : (l.step o pin).count < o.getD 1 := by
  cases o with
  | none => rw [Line.step_unfiltered]; exact l.step_count_lt pin h
  | some t => exact l.step_count_lt pin h

theorem Refiltered.keeps_bounded {a b : LineFrontEnd} (h : Refiltered a b) (ha : LinesBounded a) : LinesBounded b := by
  obtain ⟨ht, hc⟩ := (linesBounded_iff a).1 ha
  have hpos := LineFrontEnd.limit_pos ht
  cases h with
  | kept => exact ha
  | reset => exact linesBounded_reset
  | ticked => exact (linesBounded_iff _).2 ⟨ht, hc⟩
  | stepped pins =>
    refine (linesBounded_iff _).2 ⟨ht, fun i => ?_⟩
    rw [a.step_line pins i]
    split
    · exact hpos _
    · rw [Line.step_selection]
      exact Line.step_count_lt_getD _ _ (hpos _)
  | selected i sel =>
    refine (linesBounded_iff _).2 ⟨ht, fun j => ?_⟩
    by_cases hj : j = i
    · rw [hj, a.select_line_self]; exact hpos sel
    · rw [a.select_line_ne sel hj]; exact hc j
  | @rethresholded k t h =>
    have ht' (j : Fin 4) : ThresholdAllowed (a.setThreshold k t).thresholds[j.val] := by
      by_cases hj : j = k
      · rw [hj, a.setThreshold_self]; exact h
      · rw [a.setThreshold_ne t hj]; exact ht j
    refine (linesBounded_iff _).2 ⟨ht', fun i => ?_⟩
    rw [a.setThreshold_line]
    split
    · exact LineFrontEnd.limit_pos ht' _
    · rename_i hs
      rw [a.limit_setThreshold t hs]; exact hc i

/-- Settles O58: each change keeps the bounds (`Refiltered.keeps_bounded`), and a step is a sequence of them. -/
theorem linesStayBelowTheirThresholds : Obligations.LinesStayBelowTheirThresholds := by
  intro s t hs e
  exact (step_changes e).keeps (P := fun u => LinesBounded u.lfe) (fun _ _ hu h => h.refiltered.keeps_bounded hu) hs


end Sys2Proof.Machine
end

section
/-! SUPPORT. O4, O3 and O5: the filter step, the tick, and the two requests that change the filters. -/

namespace Sys2Proof.Machine

/-! ### O4: the filter step of all lines (R70, R72) -/

/-- A line's step under its selection follows the table of R70. -/
theorem LineFrontEnd.step_line_table {l : LineFrontEnd} (h : l.fresh = false) (pins : BitVec 16) (i : LineId) :
    let x := l.lines[i.val]; let y := (l.step pins).lines[i.val]; let pin := pins.getLsbD i.val
    (x.selection = 0 → y.filtered = pin ∧ y.count = 0) ∧
      ∀ k : Fin 4, x.selection.val = k.val + 1 →
        (pin = x.filtered → y.count = 0 ∧ y.filtered = x.filtered) ∧
        (pin ≠ x.filtered → x.count + 1 < l.thresholds[k.val] → y.count = x.count + 1 ∧ y.filtered = x.filtered) ∧
        (pin ≠ x.filtered → x.count + 1 = l.thresholds[k.val] → y.count = 0 ∧ y.filtered = pin) := by
  intro x y pin
  have hy : y = x.step (l.threshold x.selection) pin := l.step_line_of_not_fresh h pins i
  refine ⟨fun h0 => ?_, fun k hk => ?_⟩
  · rw [hy, l.threshold_zero (congrArg Fin.val h0)]
    exact ⟨rfl, rfl⟩
  · rw [hy, l.threshold_succ hk]
    refine ⟨fun hp => ?_, fun hp ht => ?_, fun hp ht => ?_⟩
    · rw [Line.step_of_agrees hp]; exact ⟨rfl, rfl⟩
    · rw [Line.step_of_counts hp ht]; exact ⟨rfl, rfl⟩
    · rw [Line.step_of_reaches hp (Nat.not_lt.2 ht.ge)]; exact ⟨rfl, rfl⟩

theorem execLineFilterStep_of_stepped {s : State} (h : s.lfe.stepped = true) (pins : BitVec 16) :
    exec (.lineFilterStep pins) s = .next s.resume := by
  have hf : filterStep pins s = s := if_pos h
  exact congrArg State.done hf

theorem execLineFilterStep_of_due {s : State} (h : s.lfe.stepped = false) (pins : BitVec 16) :
    exec (.lineFilterStep pins) s = .next (s.setLfe (s.lfe.step pins)).resume := by
  have hf : filterStep pins s = s.setLfe (s.lfe.step pins) := if_neg (by rw [h]; exact Bool.false_ne_true)
  exact congrArg State.done hf

/-- Settles O4: the table line by line (`step_line_table`), and the runs of levels by induction over the levels. -/
theorem filterStepFollowsThreshold : Obligations.FilterStepFollowsThreshold := by
  refine ⟨fun pins s h => execLineFilterStep_of_stepped h pins, fun pins s h => ?_, fun S l pins b _ hl hc => ?_,
    fun S n l hS hl => ⟨Line.steps_replicate_short hl, Line.steps_replicate_long hS hl⟩,
    fun S l pins hS hl => Line.steps_count_lt hS hl pins⟩
  · refine ⟨s.lfe.step pins, execLineFilterStep_of_due h pins, rfl, rfl, rfl, fun i => ?_⟩
    intro x y pin
    cases hf : s.lfe.fresh with
    | true =>
      rw [show y = x.firstStep pin from s.lfe.step_line_of_fresh hf pins i]
      exact ⟨rfl, rfl, fun _ => ⟨rfl, rfl, rfl⟩, nofun⟩
    | false =>
      have hy : y = x.step (s.lfe.threshold x.selection) pin := s.lfe.step_line_of_not_fresh hf pins i
      refine ⟨?_, ?_, nofun, fun _ => ⟨?_, s.lfe.step_line_table hf pins i⟩⟩
      · rw [hy]; exact Line.step_raw _ _ _
      · rw [hy]; exact Line.step_selection _ _ _
      · rw [hy]; exact Line.step_before _
  · obtain ⟨earlier, n, he, hn⟩ := Line.run_of_steps_change hl hc
    have hlen : pins.length + 1 = earlier.length + n := by simpa using congrArg List.length he
    refine ⟨by omega, fun x hx => ?_⟩
    rw [he, List.drop_append, List.drop_eq_nil_of_le (by omega), List.nil_append] at hx
    exact List.eq_of_mem_replicate (List.mem_of_mem_drop hx)

/-! ### O3: the tick (R78) -/

theorem advance_hli (lrx : Bool) (s : State) : (advance lrx s).hli =
    { s.hli with byteRx := s.hli.byteRx.sample (16 * s.hli.divisor) (320 * s.hli.divisor) (s.timebase + 1) lrx } := rfl

@[simp] theorem advance_mark (lrx : Bool) (s : State) (p : ProbeId) : (advance lrx s).mark p = .due := Vector.getElem_replicate _

/-- Settles O3: the link's receiver and its straps are those before what waited finished (`State.finish_keeps`). -/
theorem timebaseAdvancesByOneTick : Obligations.TimebaseAdvancesByOneTick := by
  intro lrx s u
  have hk : ClaimKeeps s u := s.finish_keeps
  have hdivisor : u.hli.divisor = s.hli.divisor := by
    unfold HostLink.divisor; rw [hk.hli.rs1, hk.hli.rs0]
  refine ⟨State.finish_of_calm, advance lrx u, rfl, ?_, fun h => ?_, fun p => ⟨advance_mark lrx u p, rfl⟩,
    rfl, rfl, rfl, rfl, ?_, rfl, rfl, rfl, rfl, hk.pending⟩
  · exact congrArg (· + 1) hk.timebase
  · change u.timebase + 1 = 0
    rw [hk.timebase]
    exact BitVec.eq_of_toNat_eq (by simp [BitVec.toNat_add, h])
  · rw [advance_hli, hdivisor, hk.hli.byteRx, hk.timebase]

/-! ### O5: LINE_SET and PROFILE_SET (R73, R74) -/

theorem lineOf_of_val {b : Byte} {i : LineId} (h : b.toNat = i.val) : lineOf b = some i := by
  rw [lineOf, dif_pos (h ▸ i.isLt)]
  exact congrArg some (Fin.ext h)

theorem selectionOf_of_val {b : Byte} {sel : Fin 5} (h : b.toNat = sel.val) : selectionOf b = some sel := by
  rw [selectionOf, dif_pos (h ▸ sel.isLt)]
  exact congrArg some (Fin.ext h)

theorem profileOf_of_val {b : Byte} {k : Fin 4} (h : b.toNat = k.val + 1) : profileOf b = some k := by
  rw [profileOf, dif_pos (by omega)]
  exact congrArg some (Fin.ext (Nat.sub_eq_of_eq_add h))

theorem lineOf_of_large {b : Byte} (h : 15 < b.toNat) : lineOf b = none := dif_neg (by omega)

theorem selectionOf_of_large {b : Byte} (h : 4 < b.toNat) : selectionOf b = none := dif_neg (by omega)

theorem profileOf_of_outside {b : Byte} (h : b.toNat < 1 ∨ 4 < b.toNat) : profileOf b = none := dif_neg (by omega)

theorem execLineSet_of_answer {s w : State} {tag line profile : Byte} {reply : Reply} (ha : Accepts s 0x10 tag)
    (he : lineSet line profile s.counted = answer reply w) :
    exec (.lineSet tag line profile) s = .next (w.replied 0x10 tag reply) :=
  hostRequest_answered (r := .lineSet line profile) ha he rfl nofun

theorem execProfileSet_of_answer {s w : State} {tag profile : Byte} {threshold : BitVec 16} {reply : Reply} (ha : Accepts s 0x12 tag)
    (he : profileSet profile threshold s.counted = answer reply w) :
    exec (.profileSet tag profile threshold) s = .next (w.replied 0x12 tag reply) :=
  hostRequest_answered (r := .profileSet profile threshold) ha he rfl nofun

/-- Settles O5: each request checks its fields in order, and then takes them to the Line Front End (`select`, `setThreshold`). -/
theorem lineRequestsSelectAndSetFilters : Obligations.LineRequestsSelectAndSetFilters := by
  refine ⟨fun tag line profile s ha => ⟨fun hl => ?_, fun hl hp => ?_, fun i sel hl hp => ?_⟩,
    fun tag profile threshold s ha => ⟨fun hp => ?_, fun h1 h4 ht => ?_, fun k hp h1 ht => ?_⟩⟩
  · exact execLineSet_of_answer ha (lineSet_of_badLine (lineOf_of_large hl) profile _)
  · have hline : lineOf line = some ⟨line.toNat, Nat.lt_succ_of_le hl⟩ := lineOf_of_val rfl
    exact execLineSet_of_answer ha (lineSet_of_badProfile hline (selectionOf_of_large hp) _)
  · exact ⟨s.lfe.select i sel, execLineSet_of_answer ha (lineSet_of_fields (lineOf_of_val hl) (selectionOf_of_val hp) _),
      rfl, rfl, rfl, s.lfe.select_line_self i sel, fun j hj => s.lfe.select_line_ne sel hj⟩
  · exact execProfileSet_of_answer ha (profileSet_of_badProfile (profileOf_of_outside hp) threshold _)
  · have hk : profile.toNat = (⟨profile.toNat - 1, by omega⟩ : Fin 4).val + 1 := (Nat.sub_add_cancel h1).symm
    have hbad : ¬ ThresholdAllowed threshold.toNat := fun ⟨hlow, hhigh⟩ => by omega
    exact execProfileSet_of_answer ha (profileSet_of_badThreshold (profileOf_of_val hk) hbad _)
  · refine ⟨s.lfe.setThreshold k threshold.toNat, ?_, rfl, rfl, s.lfe.setThreshold_self k _,
      fun j hj => s.lfe.setThreshold_ne _ hj, s.lfe.setThreshold_line k _⟩
    rw [← s.lfe.selecting_eq k]
    exact execProfileSet_of_answer ha (profileSet_of_fields (profileOf_of_val hp) ⟨h1, ht⟩ _)

end Sys2Proof.Machine
end

section
/-! SUPPORT. O11: how far the accumulator's steps count, one of them and `n` of them (R84, R104, R105). -/

namespace Sys2Proof.Machine

/-! ### The limits as integers (R84) -/

theorem sample_toInt_bounds (v : Sample32) : -2147483648 ≤ v.toInt ∧ v.toInt ≤ 2147483647 := by
  have hlow := BitVec.le_toInt v
  have hhigh := BitVec.toInt_lt (x := v)
  omega

theorem eq_accMax_iff {v : Sample32} : v = accMax ↔ v.toInt = 2147483647 := BitVec.toInt_inj.symm

theorem eq_accMin_iff {v : Sample32} : v = accMin ↔ v.toInt = -2147483648 := BitVec.toInt_inj.symm

theorem toInt_add_one_of_ne_accMax {v : Sample32} (h : v ≠ accMax) : (v + 1).toInt = v.toInt + 1 := by
  have hb := sample_toInt_bounds v
  rw [Ne, eq_accMax_iff] at h
  rw [BitVec.toInt_add]
  change (v.toInt + 1).bmod (2 ^ 32) = v.toInt + 1
  exact Int.bmod_eq_of_le (by omega) (by omega)

theorem toInt_sub_one_of_ne_accMin {v : Sample32} (h : v ≠ accMin) : (v - 1).toInt = v.toInt - 1 := by
  have hb := sample_toInt_bounds v
  rw [Ne, eq_accMin_iff] at h
  rw [BitVec.toInt_sub]
  change (v.toInt - 1).bmod (2 ^ 32) = v.toInt - 1
  exact Int.bmod_eq_of_le (by omega) (by omega)

/-! ### One step (R84, R104, R105) -/

section
variable {a : Accumulator}

theorem Accumulator.inc_counts (h : a.saturated = false) :
    a.inc.value.toInt = min (a.value.toInt + 1) 2147483647 ∧ (a.inc.saturated = true ↔ 2147483647 ≤ a.value.toInt + 1) := by
  have hb := sample_toInt_bounds a.value
  by_cases hv : a.value = accMax
  · rw [Accumulator.inc_at_limit h hv]
    rw [eq_accMax_iff] at hv
    simp only [hv, true_iff]
    omega
  · rw [Accumulator.inc_below h hv]
    dsimp only
    rw [beq_iff_eq, eq_accMax_iff, toInt_add_one_of_ne_accMax hv]
    rw [eq_accMax_iff] at hv
    omega

theorem Accumulator.dec_counts (h : a.saturated = false) :
    a.dec.value.toInt = max (a.value.toInt - 1) (-2147483648) ∧ (a.dec.saturated = true ↔ a.value.toInt - 1 ≤ -2147483648) := by
  have hb := sample_toInt_bounds a.value
  by_cases hv : a.value = accMin
  · rw [Accumulator.dec_at_limit h hv]
    rw [eq_accMin_iff] at hv
    simp only [hv, true_iff]
    omega
  · rw [Accumulator.dec_above h hv]
    dsimp only
    rw [beq_iff_eq, eq_accMin_iff, toInt_sub_one_of_ne_accMin hv]
    rw [eq_accMin_iff] at hv
    omega

end

/-! ### `n` steps from zero (R85, R104) -/

/-- The accumulator that has counted `n` ticks. -/
def Accumulator.counted (n : Nat) : Accumulator := { value := BitVec.ofNat 32 (min n 2147483647), saturated := decide (2147483647 ≤ n) }

theorem Accumulator.counted_value (n : Nat) : (Accumulator.counted n).value.toNat = min n 2147483647 := by
  rw [Accumulator.counted, BitVec.toNat_ofNat, Nat.mod_eq_of_lt (by omega)]

theorem Accumulator.inc_counted (n : Nat) : (Accumulator.counted n).inc = .counted (n + 1) := by
  by_cases hn : 2147483647 ≤ n
  · rw [Accumulator.inc_of_saturated (decide_eq_true hn), Accumulator.counted, Accumulator.counted, Nat.min_eq_right hn,
      Nat.min_eq_right (by omega), decide_eq_true hn, decide_eq_true (by omega)]
  · have hsucc : (Accumulator.counted n).value + 1 = BitVec.ofNat 32 (n + 1) := by
      rw [Accumulator.counted, Nat.min_eq_left (by omega), BitVec.ofNat_add]; rfl
    have hlimit : BitVec.ofNat 32 (n + 1) = accMax ↔ 2147483647 ≤ n + 1 := by
      rw [← BitVec.toNat_inj, BitVec.toNat_ofNat, Nat.mod_eq_of_lt (by omega)]
      change n + 1 = 2147483647 ↔ _
      omega
    have hbelow : (Accumulator.counted n).value ≠ accMax := fun e => by
      have hvalue : (Accumulator.counted n).value.toNat = 2147483647 := by rw [e]; rfl
      rw [Accumulator.counted_value] at hvalue
      omega
    rw [Accumulator.inc_below (decide_eq_false hn) hbelow, hsucc, beq_eq_decide, decide_eq_decide.2 hlimit, Accumulator.counted,
      Nat.min_eq_left (by omega)]

theorem Accumulator.iterate_inc (n : Nat) : Accumulator.inc^[n] .cleared = .counted n := by
  induction n with
  | zero => rfl
  | succ n ih => rw [Function.iterate_succ_apply', ih, Accumulator.inc_counted]

/-- Settles O11: one step by `Accumulator.inc_counts` and `Accumulator.dec_counts`, and `n` of them by `Accumulator.iterate_inc`. -/
theorem accumulatorsSaturateAtTheirLimits : Obligations.AccumulatorsSaturateAtTheirLimits := by
  refine ⟨fun a h => ⟨Accumulator.inc_of_saturated h, Accumulator.dec_of_saturated h⟩, fun a h => ?_, fun n => ?_⟩
  · obtain ⟨hup, hupFlag⟩ := Accumulator.inc_counts h
    obtain ⟨hdown, hdownFlag⟩ := Accumulator.dec_counts h
    exact ⟨hup, hupFlag, hdown, hdownFlag⟩
  · have hn : Accumulator.inc^[n] { value := 0, saturated := false } = .counted n := Accumulator.iterate_inc n
    rw [hn]
    exact ⟨Accumulator.counted_value n, decide_eq_true_iff⟩

end Sys2Proof.Machine
end

section
/-! SUPPORT. O8 and O9: a tick of the edge-defined kinds and of the counting kinds at which no window completes. -/

namespace Sys2Proof.Machine

/-! ### A measurement that completes no window (R81) -/

/-- It leaves the record that the two halves of the kind's accounting make. -/
theorem probeMeasurement_of_record {s : State} {p : ProbeId} {pl : Plan} (hm : Measuring s p pl) (hc : ¬ CompletesNow s p pl) {x : Probe}
    (hx : measureAfter pl (pl.viewA s.lfe.lines) (pl.viewB s.lfe.lines) false
      (measureBefore pl (pl.viewA s.lfe.lines) false s.timebase (s.probe p)).probe = x) :
    exec (.probeMeasurement p) s = .next ((s.setProbe p x).setMark p .made).resume := by
  rw [measureTick_incomplete hm hc, hx]

/-! ### A view's edge by its direction (R71) -/

section
variable {a : View}

theorem View.of_rising (h : a.rising = true) : a.edge = true ∧ a.now = true := by
  simp [View.rising] at h
  simp [View.edge, h]

theorem View.of_falling (h : a.falling = true) : a.edge = true ∧ a.now = false := by
  simp [View.falling] at h
  simp [View.edge, h]

end

/-! ### The edge-defined kinds (R85, R87, R89) -/

section
variable {pl : Plan} {a : View} {b : Option View} {first completed : Bool} {now : Tick} {pr : Probe}

theorem Probe.tickWindow_of_open (ho : pr.windowOpen = true) : pr.tickWindow = { pr with acc := pr.acc.inc } := if_pos ho

theorem Probe.tickWindow_of_closed (ho : pr.windowOpen = false) : pr.tickWindow = pr := if_neg (by simp [ho])

theorem measureBefore_time (hk : pl.kind = .levelTime ∨ pl.kind = .highTime) :
    (measureBefore pl a first now pr).probe = pr.tickWindow := by
  unfold measureBefore
  rcases hk with hk | hk <;> rw [hk]

theorem measureBefore_span_edge (hk : pl.kind = .span) (ho : pr.windowOpen = true) (hr : a.rising = true) :
    (measureBefore pl a first now pr).probe = { pr with acc := pr.acc.inc, edgeCount := pr.edgeCount + 1 } := by
  unfold measureBefore; rw [hk]; dsimp only
  rw [Probe.tickWindow_of_open ho, ho, hr]; rfl

theorem measureBefore_span_noEdge (hk : pl.kind = .span) (h : pr.windowOpen = false ∨ a.rising = false) :
    (measureBefore pl a first now pr).probe = pr.tickWindow := by
  unfold measureBefore; rw [hk]; dsimp only
  rw [if_neg (by rcases h with h | h <;> simp [h])]

theorem measureAfter_levelTime_noEdge (hk : pl.kind = .levelTime) (he : a.edge = false) : measureAfter pl a b completed pr = pr := by
  unfold measureAfter; rw [hk]; exact if_neg (by simp [he])

theorem measureAfter_highTime_rising (hk : pl.kind = .highTime) (hr : a.rising = true) :
    measureAfter pl a b completed pr = { pr with windowOpen := true, acc := .cleared } := by
  unfold measureAfter; rw [hk]; exact if_pos hr

theorem measureAfter_span_unopened (hk : pl.kind = .span) (h : pr.windowOpen = true ∨ a.rising = false) :
    measureAfter pl a b completed pr = pr := by
  unfold measureAfter; rw [hk]; exact if_neg (by rcases h with h | h <;> simp [h])

/-! ### The counting kinds between boundaries (R91) -/

theorem measure_counting (hk : pl.kind = .count ∨ pl.kind = .updown ∨ pl.kind = .quad) :
    measureAfter pl a b false (measureBefore pl a first now pr).probe = pr.countStep pl a b := by
  unfold measureBefore measureAfter
  rcases hk with hk | hk | hk <;> rw [hk] <;> rfl

/-- COUNT counts a rising edge that its gate lets through (R92). -/
theorem Probe.countStep_count (hk : pl.kind = .count) :
    pr.countStep pl a b = if a.rising && b.all (·.now) then { pr with acc := pr.acc.inc } else pr := by
  unfold Probe.countStep; rw [hk]

/-- UPDOWN counts a rising edge in the direction that line B gives (R94). -/
theorem Probe.countStep_updown (hk : pl.kind = .updown) {bv : View} :
    pr.countStep pl a (some bv) =
      if a.rising then { pr with acc := if bv.now then pr.acc.inc else pr.acc.dec } else pr := by
  unfold Probe.countStep; rw [hk]; rfl

/-! ### QUAD (R95, R96) -/

section
variable {bv : View}

theorem Probe.countStep_quad (hk : pl.kind = .quad) :
    pr.countStep pl a (some bv) =
      if a.edge && bv.edge then { pr with quadErrors := satInc pr.quadErrors }
      else if a.edge || bv.edge then { pr with acc := if quadForward a bv then pr.acc.inc else pr.acc.dec }
      else pr := by
  unfold Probe.countStep; rw [hk]

/-- One edge is one step, up or down. -/
theorem Probe.countStep_quad_step (hk : pl.kind = .quad) (h : a.edge = !bv.edge) :
    pr.countStep pl a (some bv) = { pr with acc := if quadForward a bv then pr.acc.inc else pr.acc.dec } := by
  rw [Probe.countStep_quad hk, h]
  cases bv.edge <;> rfl

/-- The rows of R95 that step up. -/
theorem quad_up (h : (a.rising = true ∧ bv.edge = false ∧ bv.now = false) ∨ (bv.rising = true ∧ a.edge = false ∧ a.now = true) ∨
    (a.falling = true ∧ bv.edge = false ∧ bv.now = true) ∨ (bv.falling = true ∧ a.edge = false ∧ a.now = false)) :
    (a.edge = !bv.edge) ∧ quadForward a bv = true := by
  rcases h with ⟨h, he, hn⟩ | ⟨h, he, hn⟩ | ⟨h, he, hn⟩ | ⟨h, he, hn⟩
  · simp [quadForward, View.of_rising h, he, hn]
  · simp [quadForward, View.of_rising h, he, hn]
  · simp [quadForward, View.of_falling h, he, hn]
  · simp [quadForward, View.of_falling h, he, hn]

/-- The rows of R95 that step down. -/
theorem quad_down (h : (a.rising = true ∧ bv.edge = false ∧ bv.now = true) ∨ (bv.rising = true ∧ a.edge = false ∧ a.now = false) ∨
    (a.falling = true ∧ bv.edge = false ∧ bv.now = false) ∨ (bv.falling = true ∧ a.edge = false ∧ a.now = true)) :
    (a.edge = !bv.edge) ∧ quadForward a bv = false := by
  rcases h with ⟨h, he, hn⟩ | ⟨h, he, hn⟩ | ⟨h, he, hn⟩ | ⟨h, he, hn⟩
  · simp [quadForward, View.of_rising h, he, hn]
  · simp [quadForward, View.of_rising h, he, hn]
  · simp [quadForward, View.of_falling h, he, hn]
  · simp [quadForward, View.of_falling h, he, hn]

end

/-- quad_errors saturates at 65535 (R96). -/
theorem satInc_16 (x : BitVec 16) : satInc x = if x.toNat = 65535 then x else x + 1 := by
  have hlimit : x = BitVec.allOnes 16 ↔ x.toNat = 65535 := BitVec.toNat_inj.symm
  simp only [satInc, hlimit]

end

/-! ### O8 -/

/-- Where no measurement is due PROBE_MEASUREMENT lets what waits go on, and that is all (R81; log 2). -/
theorem probeMeasurement_of_not_due {s : State} {p : ProbeId} (ho : s.occasion = none)
    (h : (s.probe p).state ≠ .running ∨ s.lfe.stepped = false ∨ s.mark p = .made) : exec (.probeMeasurement p) s = .next s.resume := by
  have hdue : ¬ s.measurementDue p = true := by rcases h with h | h | h <;> simp [State.measurementDue, h]
  have e : measurementClaim p s = s := if_neg hdue
  exact (probeClaim_of_whole ho _).trans (congrArg (fun u : State => Host.Outcome.next u.resume) e)

/-- Settles O8: each half of the tick's accounting by its kind. -/
theorem edgeKindsMeasureByTheirSteps : Obligations.EdgeKindsMeasureByTheirSteps := by
  refine ⟨fun s p => probeMeasurement_of_not_due, fun s p pl hm hc => ?_⟩
  intro a pr after
  have hafter {x : Probe} := probeMeasurement_of_record hm hc (x := x)
  refine ⟨fun hk => ⟨fun ho => hafter ?_, fun ho he => hafter ?_, fun ho he => hafter ?_⟩,
    fun hk => ⟨fun ho hr => hafter ?_, fun ho hr => hafter ?_, fun ho hr => hafter ?_⟩,
    fun hk => ⟨fun ho hr => hafter ?_, fun ho hr => hafter ?_, fun ho hr => hafter ?_, fun ho hr => hafter ?_⟩⟩
  · have he : a.edge = false := by
      rw [← Bool.not_eq_true]
      unfold CompletesNow at hc
      simp only [hk] at hc
      exact fun he => hc ⟨ho, he⟩
    rw [measureBefore_time (.inl hk), Probe.tickWindow_of_open ho]
    exact measureAfter_levelTime_noEdge hk he
  · rw [measureBefore_time (.inl hk), Probe.tickWindow_of_closed ho]
    exact measureAfter_levelTime_noEdge hk he
  · rw [measureBefore_time (.inl hk), Probe.tickWindow_of_closed ho]
    exact measureAfter_levelTime hk he
  · rw [measureBefore_time (.inr hk), Probe.tickWindow_of_open ho]
    exact measureAfter_highTime hk hr
  · rw [measureBefore_time (.inr hk), Probe.tickWindow_of_closed ho]
    exact measureAfter_highTime hk hr
  · rw [measureBefore_time (.inr hk), Probe.tickWindow_of_closed ho]
    exact measureAfter_highTime_rising hk hr
  · rw [measureBefore_span_noEdge hk (.inr hr), Probe.tickWindow_of_open ho]
    exact measureAfter_span_unopened hk (.inr hr)
  · rw [measureBefore_span_edge hk ho hr]
    exact measureAfter_span_unopened hk (.inl ho)
  · rw [measureBefore_span_noEdge hk (.inl ho), Probe.tickWindow_of_closed ho]
    exact measureAfter_span_unopened hk (.inr hr)
  · rw [measureBefore_span_noEdge hk (.inl ho), Probe.tickWindow_of_closed ho]
    exact measureAfter_span hk hr ho

/-! ### O9 -/

/-- Between boundaries a counting kind makes its counting step. -/
theorem probeMeasurement_of_countStep {s : State} {p : ProbeId} {pl : Plan} (hm : Measuring s p pl) (hc : ¬ CompletesNow s p pl)
    (hk : pl.kind = .count ∨ pl.kind = .updown ∨ pl.kind = .quad) {b : Option View} (hb : pl.viewB s.lfe.lines = b) {x : Probe}
    (hx : (s.probe p).countStep pl (pl.viewA s.lfe.lines) b = x) :
    exec (.probeMeasurement p) s = .next ((s.setProbe p x).setMark p .made).resume :=
  probeMeasurement_of_record hm hc (by rw [measure_counting hk, hb, hx])

/-- Settles O9: the counting step of each kind, by the rows of its rule. -/
theorem countingKindsMeasureByTheirSteps : Obligations.CountingKindsMeasureByTheirSteps := by
  intro s p pl hm hc a pr after
  have hstep {b : Option View} {x : Probe} := fun hk => probeMeasurement_of_countStep hm hc hk (b := b) (x := x)
  refine ⟨fun hk g hg => ⟨fun hr hn => hstep (.inl hk) hg ?_, fun h => hstep (.inl hk) hg ?_⟩,
    fun hk b hb => ⟨fun hr hn => hstep (.inr (.inl hk)) hb ?_, fun hr hn => hstep (.inr (.inl hk)) hb ?_,
      fun hr => hstep (.inr (.inl hk)) hb ?_⟩,
    fun hk b hb => ⟨fun h => hstep (.inr (.inr hk)) hb ?_, fun h => hstep (.inr (.inr hk)) hb ?_,
      fun hea heb => hstep (.inr (.inr hk)) hb ?_, fun hea heb => hstep (.inr (.inr hk)) hb ?_⟩⟩
  · have hopen : g.all (·.now) = true := (Option.all_eq_true _ _).2 hn
    rw [Probe.countStep_count hk, hr, hopen]; rfl
  · rw [Probe.countStep_count hk]
    refine if_neg ?_
    rcases h with hr | ⟨b, rfl, hn⟩
    · rw [hr]; exact Bool.false_ne_true
    · rw [Option.all_some, hn, Bool.and_false]; exact Bool.false_ne_true
  · rw [Probe.countStep_updown hk, hr, hn]; rfl
  · rw [Probe.countStep_updown hk, hr, hn]; rfl
  · rw [Probe.countStep_updown hk, hr]; rfl
  · obtain ⟨hone, hup⟩ := quad_up h
    rw [Probe.countStep_quad_step hk hone, hup]; rfl
  · obtain ⟨hone, hdown⟩ := quad_down h
    rw [Probe.countStep_quad_step hk hone, hdown]; rfl
  · rw [Probe.countStep_quad hk, hea, heb, ← satInc_16]; rfl
  · rw [Probe.countStep_quad hk, hea, heb]; rfl

end Sys2Proof.Machine
end

section
/-! SUPPORT. O10: the ticks of a DROPOUT probe (R98), and a silence of them (R99, R100). -/

namespace Sys2Proof.Machine

/-! ### One DROPOUT tick, up to the point at which it may expire and after it (R98) -/

section
variable {pl : Plan} {a : View} {b : Option View} {now : Tick} {pr : Probe}

theorem measureBefore_dropout (hk : pl.kind = .dropout) :
    measureBefore pl a false now pr =
      { probe := pr.dropoutTick pl a false, completes := (pr.dropoutTick pl a false).countdown == 0 } := by
  unfold measureBefore; rw [hk]

theorem measureAfter_dropout_unexpired (hk : pl.kind = .dropout) : measureAfter pl a b false pr = pr := by
  unfold measureAfter; rw [hk]; exact if_neg Bool.false_ne_true

theorem Probe.dropoutTick_of_rising (hr : a.rising = true) :
    pr.dropoutTick pl a false = { pr with acc := .cleared, countdown := pl.window } := by
  unfold Probe.dropoutTick; rw [hr]; rfl

theorem Probe.dropoutTick_of_quiet (hr : a.rising = false) :
    pr.dropoutTick pl a false = { pr with acc := pr.acc.inc, countdown := pr.countdown - 1 } := by
  unfold Probe.dropoutTick; rw [hr]; rfl

/-! ### A silence (R99, R100) -/

/-- A whole tick of a DROPOUT probe whose run goes on. -/
def silenceTick (pl : Plan) (quiet : View) (now : Tick) (x : Probe) : Probe :=
  let m := measureBefore pl quiet false now x
  measureAfter pl quiet none m.completes m.probe

/-- A quiet tick counts one more, and its countdown starts again where it expires. -/
theorem silenceTick_eq (hk : pl.kind = .dropout) (hq : a.rising = false) :
    silenceTick pl a now pr =
      { pr with acc := pr.acc.inc, countdown := if pr.countdown - 1 = 0 then pl.window else pr.countdown - 1 } := by
  unfold silenceTick
  rw [measureBefore_dropout hk, Probe.dropoutTick_of_quiet hq]
  dsimp only
  by_cases h0 : pr.countdown - 1 = 0
  · rw [if_pos h0, h0, beq_self_eq_true, measureAfter_dropout hk]
  · rw [if_neg h0, beq_false_of_ne h0, measureAfter_dropout_unexpired hk]

/-- The elapsed count of a silence is that of its ticks, whatever expires in it (R99). -/
theorem silence_acc (hk : pl.kind = .dropout) (hq : a.rising = false) (n : Nat) :
    ((silenceTick pl a now)^[n] pr).acc = Accumulator.inc^[n] pr.acc :=
  have hstep : Function.Semiconj Probe.acc (silenceTick pl a now) Accumulator.inc := fun x => by rw [silenceTick_eq hk hq]
  hstep.iterate_right n pr

/-- `n` quiet ticks after a restart the countdown is at least 1 and at most the timeout, and what it has still to count ends at a multiple
of the timeout. -/
structure CountsDown (pl : Plan) (n : Nat) (countdown : BitVec 32) : Prop where
  pos : 1 ≤ countdown.toNat
  le : countdown.toNat ≤ pl.window.toNat
  dvd : pl.window.toNat ∣ n + countdown.toNat

/-- Its next tick expires exactly where the number of ticks is a multiple of the timeout. -/
theorem CountsDown.expires_iff {n : Nat} {c : BitVec 32} (h : CountsDown pl n c) : c - 1 = 0 ↔ pl.window.toNat ∣ n + 1 := by
  obtain ⟨hpos, hle, hdvd⟩ := h
  have hone : c - 1 = 0 ↔ c.toNat = 1 := by rw [sub_eq_zero, ← BitVec.toNat_inj]; rfl
  rw [hone]
  refine ⟨fun h1 => h1 ▸ hdvd, fun hn => ?_⟩
  have hrest : pl.window.toNat ∣ c.toNat - 1 := by
    have := Nat.dvd_sub hdvd hn
    rwa [Nat.add_sub_add_left] at this
  have hzero : c.toNat - 1 = 0 := Nat.eq_zero_of_dvd_of_lt hrest (by omega)
  omega

theorem CountsDown.next {n : Nat} {c : BitVec 32} (h : CountsDown pl n c) :
    CountsDown pl (n + 1) (if c - 1 = 0 then pl.window else c - 1) := by
  have hexpires := h.expires_iff
  obtain ⟨hpos, hle, hdvd⟩ := h
  by_cases h0 : c - 1 = 0
  · rw [if_pos h0]
    exact ⟨by omega, le_rfl, (Nat.dvd_add_left (dvd_refl _)).2 (hexpires.1 h0)⟩
  · have hone : (c - 1).toNat = c.toNat - 1 := BitVec.toNat_sub_of_le hpos
    have hne : (c - 1).toNat ≠ 0 := fun e => h0 (BitVec.eq_of_toNat_eq e)
    rw [if_neg h0]
    refine ⟨by omega, by omega, ?_⟩
    have hsum : n + 1 + (c - 1).toNat = n + c.toNat := by omega
    rwa [hsum]

theorem silence_countsDown (hk : pl.kind = .dropout) (hq : a.rising = false) (hw : 1 ≤ pl.window.toNat)
    (hstart : pr.countdown = pl.window) (n : Nat) : CountsDown pl n ((silenceTick pl a now)^[n] pr).countdown := by
  induction n with
  | zero => exact ⟨hstart ▸ hw, hstart ▸ le_rfl, by rw [Nat.zero_add, Function.iterate_zero_apply, hstart]⟩
  | succ n ih =>
    rw [Function.iterate_succ_apply', silenceTick_eq hk hq]
    exact ih.next

end

/-- Settles O10: one tick by `Probe.dropoutTick`, and the ticks of a silence by `silence_countsDown` and `silence_acc`. -/
theorem dropoutExpiresAtMultiplesOfTheTimeout : Obligations.DropoutExpiresAtMultiplesOfTheTimeout := by
  refine ⟨fun s p pl hm hk hc => probeMeasurement_of_record hm hc ?_, fun pl pr quiet now n hk hw hq hacc hstart => ?_⟩
  · rw [measureBefore_dropout hk, measureAfter_dropout_unexpired hk]
    cases hr : (pl.viewA s.lfe.lines).rising with
    | true => exact Probe.dropoutTick_of_rising hr
    | false => exact Probe.dropoutTick_of_quiet hr
  · intro tick before
    have hcountdown : CountsDown pl n before.countdown := silence_countsDown hk hq hw hstart n
    have helapsed : before.acc = .counted n := by
      rw [← Accumulator.iterate_inc, Accumulator.cleared, ← hacc]; exact silence_acc hk hq n
    rw [measureBefore_dropout hk, Probe.dropoutTick_of_quiet hq]
    dsimp only
    rw [beq_iff_eq, helapsed, Accumulator.inc_counted]
    exact ⟨hcountdown.expires_iff, Accumulator.counted_value (n + 1)⟩

end Sys2Proof.Machine
end

section
/-! SUPPORT. O15, O17 and O7: the history and its exact spread (R108 to R113), the bins of the histogram (R120, R121), and the two
histogram requests (R123, R125). -/

namespace Sys2Proof.Machine

/-! ### O15: the history and its spread (R108, R111) -/

/-- An append to the newest `depth` samples of a list leaves the newest `depth` of the longer list (R108). -/
theorem appendHistory_drop (depth : Nat) (samples : List Sample32) (v : Sample32) :
    appendHistory depth (samples.drop (samples.length - depth)) v =
      (samples ++ [v]).drop ((samples ++ [v]).length - depth) := by
  unfold appendHistory
  rw [← List.drop_append_of_le_length (Nat.sub_le _ _), List.drop_drop]
  congr 1
  simp only [List.length_drop, List.length_append, List.length_singleton]
  omega

theorem foldl_appendHistory (depth : Nat) (samples : List Sample32) :
    samples.foldl (appendHistory depth) [] = samples.drop (samples.length - depth) := by
  induction samples using List.reverseRecOn with
  | nil => exact List.drop_nil.symm
  | append_singleton samples v ih => rw [List.foldl_append, ih]; exact appendHistory_drop depth samples v

section
variable {h : List Sample32}

theorem max?_eq_historyMax (hne : h ≠ []) : (h.map BitVec.toInt).max? = some (historyMax h) := by
  cases h with
  | nil => exact absurd rfl hne
  | cons x xs => rw [List.map_cons, List.max?_cons', List.foldl_map]; rfl

theorem min?_eq_historyMin (hne : h ≠ []) : (h.map BitVec.toInt).min? = some (historyMin h) := by
  cases h with
  | nil => exact absurd rfl hne
  | cons x xs => rw [List.map_cons, List.min?_cons', List.foldl_map]; rfl

theorem historyMax_mem (hne : h ≠ []) : ∃ x ∈ h, x.toInt = historyMax h := by
  obtain ⟨hmem, -⟩ := List.max?_eq_some_iff.1 (max?_eq_historyMax hne)
  exact List.mem_map.1 hmem

theorem historyMin_mem (hne : h ≠ []) : ∃ x ∈ h, x.toInt = historyMin h := by
  obtain ⟨hmem, -⟩ := List.min?_eq_some_iff.1 (min?_eq_historyMin hne)
  exact List.mem_map.1 hmem

theorem le_historyMax {x : Sample32} (hx : x ∈ h) : x.toInt ≤ historyMax h := by
  obtain ⟨-, hle⟩ := List.max?_eq_some_iff.1 (max?_eq_historyMax (List.ne_nil_of_mem hx))
  exact hle _ (List.mem_map_of_mem hx)

theorem historyMin_le {x : Sample32} (hx : x ∈ h) : historyMin h ≤ x.toInt := by
  obtain ⟨-, hle⟩ := List.min?_eq_some_iff.1 (min?_eq_historyMin (List.ne_nil_of_mem hx))
  exact hle _ (List.mem_map_of_mem hx)

theorem sub_le_historySpread {x y : Sample32} (hx : x ∈ h) (hy : y ∈ h) : x.toInt - y.toInt ≤ historySpread h :=
  Int.sub_le_sub (le_historyMax hx) (historyMin_le hy)

theorem historySpread_eq_sub (hne : h ≠ []) : ∃ x ∈ h, ∃ y ∈ h, historySpread h = x.toInt - y.toInt := by
  obtain ⟨x, hx, hmax⟩ := historyMax_mem hne
  obtain ⟨y, hy, hmin⟩ := historyMin_mem hne
  exact ⟨x, hx, y, hy, by rw [hmax, hmin]; rfl⟩

/-! ### The two tests (R112, R113) -/

theorem historySpread_le_iff (hne : h ≠ []) (bound : Int) :
    historySpread h ≤ bound ↔ ∀ x ∈ h, ∀ y ∈ h, x.toInt - y.toInt ≤ bound := by
  constructor
  · intro hs x hx y hy
    exact (sub_le_historySpread hx hy).trans hs
  · intro hall
    obtain ⟨x, hx, y, hy, e⟩ := historySpread_eq_sub hne
    exact e ▸ hall x hx y hy

theorem toInt_eq_historyMax {x : Sample32} (hx : x ∈ h) (hlargest : ∀ z ∈ h, z.toInt ≤ x.toInt) : x.toInt = historyMax h := by
  obtain ⟨m, hm, hmax⟩ := historyMax_mem (List.ne_nil_of_mem hx)
  exact le_antisymm (le_historyMax hx) (hmax ▸ hlargest m hm)

/-- The spread as a fraction of the largest sample, through any sample that is the largest (R113). -/
theorem historySpread_fraction_iff (hne : h ≠ []) (tol : Int) :
    historySpread h * 65536 ≤ tol * historyMax h ↔
      ∀ x ∈ h, (∀ z ∈ h, z.toInt ≤ x.toInt) → ∀ y ∈ h, (x.toInt - y.toInt) * 65536 ≤ tol * x.toInt := by
  constructor
  · intro hs x hx hlargest y hy
    have hxy := sub_le_historySpread hx hy
    rw [← toInt_eq_historyMax hx hlargest] at hs
    omega
  · intro hall
    obtain ⟨x, hx, hmax⟩ := historyMax_mem hne
    obtain ⟨y, hy, hmin⟩ := historyMin_mem hne
    have hxy := hall x hx (fun z hz => hmax ▸ le_historyMax hz) y hy
    rwa [hmax, hmin] at hxy

theorem historyPasses_abs {pl : Plan} (hk : pl.tolKind = .abs) :
    historyPasses pl h = true ↔ historySpread h ≤ pl.tol.toNat := by
  unfold historyPasses; rw [hk]; exact decide_eq_true_iff

theorem historyPasses_rel {pl : Plan} (hk : pl.tolKind = .rel) :
    historyPasses pl h = true ↔ historySpread h * 65536 ≤ pl.tol.toNat * historyMax h := by
  unfold historyPasses; rw [hk]; exact decide_eq_true_iff

end

/-- Settles O15: the history by induction over its samples, and each test through the largest and the smallest of them. -/
theorem settlementTestIsExact : Obligations.SettlementTestIsExact := by
  refine ⟨fun depth samples _ => foldl_appendHistory depth samples, fun pl h hne => ?_⟩
  obtain ⟨x, hx, y, hy, hspread⟩ := historySpread_eq_sub hne
  have hself : x.toInt - x.toInt ≤ historySpread h := sub_le_historySpread hx hx
  have hxb := sample_toInt_bounds x
  have hyb := sample_toInt_bounds y
  exact ⟨⟨x, hx, y, hy, hspread⟩, fun _ hu _ hv => sub_le_historySpread hu hv, by omega, by omega,
    fun hk => (historyPasses_abs hk).trans (historySpread_le_iff hne _),
    fun hk => (historyPasses_rel hk).trans (historySpread_fraction_iff hne _)⟩

/-! ### O17: the bin of a sample (R120) -/

/-- Where `p` holds of every element before one of which it holds, the elements of which it holds are the first ones. -/
theorem lt_countP_iff {α : Type} {p : α → Bool} {xs : List α} (hp : xs.Pairwise fun x y => p y = true → p x = true)
    {i : Nat} (hi : i < xs.length) : i < xs.countP p ↔ p xs[i] = true := by
  induction xs generalizing i with
  | nil => exact absurd hi (Nat.not_lt_zero i)
  | cons x xs ih =>
    obtain ⟨hx, hxs⟩ := List.pairwise_cons.1 hp
    by_cases hpx : p x = true
    · rw [List.countP_cons_of_pos hpx]
      cases i with
      | zero => exact iff_of_true (Nat.succ_pos _) hpx
      | succ i => exact Nat.succ_lt_succ_iff.trans (ih hxs (Nat.lt_of_succ_lt_succ hi))
    · have hnone : ∀ y ∈ xs, ¬ p y = true := fun y hy h => hpx (hx y hy h)
      rw [List.countP_cons_of_neg hpx, List.countP_eq_zero.2 hnone]
      refine iff_of_false (Nat.not_lt_zero i) ?_
      cases i with
      | zero => exact hpx
      | succ i => exact hnone _ (List.getElem_mem _)

/-- Below the bin of a sample stand the edges at or below it (R120). -/
theorem lt_binOf_iff {edges : List Sample32} (he : edges.Pairwise fun x y => x.toInt < y.toInt) (v : Sample32) {i : Nat}
    (hi : i < edges.length) : i < binOf edges v ↔ (edges[i]).toInt ≤ v.toInt := by
  refine (lt_countP_iff (he.imp fun {x y} hxy hy => ?_) hi).trans BitVec.sle_iff_toInt_le
  exact BitVec.sle_iff_toInt_le.2 (hxy.le.trans (BitVec.sle_iff_toInt_le.1 hy))

/-! ### The counts of a histogram (R121) -/

theorem satInc_toNat_32 (n : BitVec 32) : (satInc n).toNat = min (n.toNat + 1) 4294967295 := satInc_toNat n

/-- A bin or a total that is not full after a count has counted it. -/
theorem satInc_toNat_of_not_full {n : BitVec 32} (h : (satInc n).toNat < 4294967295) : (satInc n).toNat = n.toNat + 1 := by
  rw [satInc_toNat_32] at h ⊢
  omega

theorem Histogram.count_bin (h : Histogram) (v : Sample32) (i : Nat) :
    ((h.count v).bins[i]?).map BitVec.toNat =
      if i = binOf h.edges v then (h.bins[i]?).map (fun n => min (n.toNat + 1) 4294967295) else (h.bins[i]?).map BitVec.toNat := by
  by_cases e : i = binOf h.edges v
  · have hbin : (h.count v).bins[i]? = (h.bins[i]?).map satInc := e ▸ List.getElem?_modify_eq ..
    rw [if_pos e, hbin, Option.map_map]
    exact congrArg (Option.map · h.bins[i]?) (funext satInc_toNat_32)
  · have hbin : (h.count v).bins[i]? = h.bins[i]? := List.getElem?_modify_ne _ _ (Ne.symm e)
    rw [if_neg e, hbin]

/-- While no bin is full, a count adds 1 to the sum of the bins (R121). -/
theorem Histogram.sum_count_bins {h : Histogram} {v : Sample32} (hb : binOf h.edges v < h.bins.length)
    (hfree : ∀ n ∈ (h.count v).bins, n.toNat < 4294967295) :
    ((h.count v).bins.map BitVec.toNat).sum = (h.bins.map BitVec.toNat).sum + 1 := by
  obtain ⟨below, n, above, hbins, -, hcounted⟩ := List.exists_of_modify satInc hb
  change (h.count v).bins = below ++ satInc n :: above at hcounted
  rw [hcounted] at hfree ⊢
  have hn : (satInc n).toNat = n.toNat + 1 := satInc_toNat_of_not_full (hfree _ (List.mem_append_right _ List.mem_cons_self))
  rw [hbins]
  simp only [List.map_append, List.map_cons, List.sum_append, List.sum_cons, hn]
  omega

/-- Settles O17: the bin by `lt_binOf_iff`, and the counts by `Histogram.count_bin` and `Histogram.sum_count_bins`. -/
theorem samplesAreBinnedBetweenEdges : Obligations.SamplesAreBinnedBetweenEdges := by
  intro h v he hlen b g
  have hb : b ≤ h.edges.length := List.countP_le_length
  refine ⟨hb, fun i hi => ⟨(lt_binOf_iff he v hi).1, fun hle => ?_⟩, rfl, List.length_modify .., h.count_bin v,
    satInc_toNat_32 h.total, fun hfree htotal hsum => ?_⟩
  · exact Int.not_le.1 fun hv => Nat.not_lt.2 hle ((lt_binOf_iff he v hi).2 hv)
  · have hinc : g.total.toNat = h.total.toNat + 1 := satInc_toNat_of_not_full htotal
    rw [hinc, hsum, Histogram.sum_count_bins (by omega) hfree]

/-! ### O7: HIST_READ and HIST_CLEAR (R123, R125) -/

section
variable {p : ProbeId} {half : Byte} {s : State}

theorem histRead_of_refused (h : (s.probe p).qual.histogram = none ∨ (s.probe p).state = .free) :
    histRead p half s = denyState p s := by
  unfold histRead; dsimp only
  split
  · rfl
  · rename_i e
    exact if_pos (h.resolve_left fun hn => nomatch e.symm.trans hn)

theorem histClear_of_refused (h : (s.probe p).qual.histogram = none ∨ (s.probe p).state = .free) :
    histClear p s = denyState p s := by
  unfold histClear; dsimp only
  split
  · rfl
  · rename_i e
    exact if_pos (h.resolve_left fun hn => nomatch e.symm.trans hn)

theorem Half.ofCode_of_large (h : 1 < half.toNat) : Half.ofCode half = none := List.getElem?_eq_none h

variable {x : Histogram} (hx : (s.probe p).qual.histogram = some x) (hs : (s.probe p).state ≠ .free)
include hx hs

theorem histRead_of_badHalf (h : Half.ofCode half = none) : histRead p half s = deny (.badValue 2) s := by
  unfold histRead; dsimp only
  rw [hx]; dsimp only
  rw [if_neg hs, h]

theorem histRead_of_half {hf : Half} (h : Half.ofCode half = some hf) :
    histRead p half s = answer (.histRead (s.probe p).generation x.edges.length half s.timebase x.total (hf.part x.edges)
      (hf.part x.bins)) s := by
  unfold histRead; dsimp only
  rw [hx]; dsimp only
  rw [if_neg hs, h]

theorem histClear_of_histogram : histClear p s = answer (.histClear (s.probe p).generation x.total)
    (s.setProbe p { s.probe p with qual := { (s.probe p).qual with histogram := some x.clear } }) := by
  unfold histClear; dsimp only
  rw [hx]
  exact if_neg hs

end

/-- Settles O7: each request checks the state and the histogram first, and HIST_READ then the half. -/
theorem histogramRequestsReadAndClear : Obligations.HistogramRequestsReadAndClear := by
  refine ⟨fun tag b half p s h hb => ?_, fun tag b p s h hb => ?_⟩
  · have hexec : execute (.histRead b half) s.counted = histRead p half s.counted := withProbe_of_val hb _ _
    refine ⟨fun hr => ?_, fun x hx hs => ⟨fun hl => ?_, fun h0 => ?_, fun h1 => ?_⟩⟩
    · exact hostRequest_denied (r := .histRead b half) h (hexec.trans (histRead_of_refused (s := s.counted) hr)) rfl nofun
    · exact hostRequest_denied (r := .histRead b half) h
        (hexec.trans (histRead_of_badHalf (s := s.counted) hx hs (Half.ofCode_of_large hl))) rfl nofun
    · subst h0
      exact hostRequest_answered (r := .histRead b 0) h
        (hexec.trans (histRead_of_half (s := s.counted) (hf := .low) hx hs rfl)) rfl nofun
    · subst h1
      exact hostRequest_answered (r := .histRead b 1) h
        (hexec.trans (histRead_of_half (s := s.counted) (hf := .high) hx hs rfl)) rfl nofun
  · have hexec : execute (.histClear b) s.counted = histClear p s.counted := withProbe_of_val hb _ _
    refine ⟨fun hr => ?_, fun x hx hs => ?_⟩
    · exact hostRequest_denied (r := .histClear b) h (hexec.trans (histClear_of_refused (s := s.counted) hr)) rfl nofun
    · exact hostRequest_answered (r := .histClear b) h (hexec.trans (histClear_of_histogram (s := s.counted) hx hs)) rfl nofun

end Sys2Proof.Machine
end

section
/-! SUPPORT. The slots of the Coupling Table, and what COUPLE_ADD and COUPLE_REMOVE make of them, each outcome said once (R128 to R130). -/

namespace Sys2Proof.Machine

/-! ### One slot written, and the lowest slot that passes a test -/

/-- The table with one slot written. -/
def CouplingTable.put (t : CouplingTable) (i : SlotId) (o : Option Coupling) : CouplingTable :=
  { t with slots := t.slots.set i.val o i.isLt }

@[simp] theorem CouplingTable.put_slot_self (t : CouplingTable) (i : SlotId) (o : Option Coupling) : (t.put i o).slots[i.val] = o :=
  Vector.getElem_set_self ..

theorem CouplingTable.put_slot_ne (t : CouplingTable) {i j : SlotId} (o : Option Coupling) (h : j ≠ i) :
    (t.put i o).slots[j.val] = t.slots[j.val] :=
  Vector.getElem_set_ne i.isLt j.isLt fun e => h (Fin.ext e.symm)

theorem CouplingTable.lowest_eq_some_iff {t : CouplingTable} {f : Option Coupling → Bool} {i : SlotId} :
    t.lowest f = some i ↔ f t.slots[i.val] = true ∧ ∀ j : SlotId, j < i → f t.slots[j.val] = false := by
  rw [lowest, ← Fin.find?_eq_find?_finRange, Fin.find?_eq_some_iff]

theorem CouplingTable.lowest_eq_none_iff {t : CouplingTable} {f : Option Coupling → Bool} :
    t.lowest f = none ↔ ∀ i : SlotId, f t.slots[i.val] = false := by
  rw [lowest, ← Fin.find?_eq_find?_finRange, Fin.find?_eq_none_iff]

/-! ### The twin of a coupling, and the free slot for it (R128, R129) -/

/-- The coupling has this source, event and target, of which no two couplings share all three (R128). -/
def Coupling.joins (c : Coupling) (source : ProbeId) (event : EventKind) (target : ProbeId) : Prop :=
  c.source = source ∧ c.event = event ∧ c.target = target

/-- The slot in which COUPLE_ADD finds a coupling of the same source, event and target (R129). -/
def CouplingTable.twin (t : CouplingTable) (source : ProbeId) (event : EventKind) (target : ProbeId) : Option SlotId :=
  t.lowest fun o => o.any fun c => c.source = source ∧ c.event = event ∧ c.target = target

/-- The slot that COUPLE_ADD takes: the lowest free one (R129). -/
def CouplingTable.free (t : CouplingTable) : Option SlotId := t.lowest (·.isNone)

section
variable {t : CouplingTable} {source target : ProbeId} {event : EventKind} {i : SlotId}

theorem any_joins_eq_true_iff {o : Option Coupling} :
    (o.any fun c => decide (c.source = source ∧ c.event = event ∧ c.target = target)) = true ↔
      ∃ c, o = some c ∧ c.joins source event target := by
  rw [Option.any_eq_true]
  exact exists_congr fun c => and_congr_right fun _ => decide_eq_true_iff

theorem any_joins_eq_false_iff {o : Option Coupling} :
    (o.any fun c => decide (c.source = source ∧ c.event = event ∧ c.target = target)) = false ↔
      ∀ c, o = some c → ¬ c.joins source event target := by
  rw [← Bool.not_eq_true, any_joins_eq_true_iff, not_exists]
  exact forall_congr' fun c => not_and

theorem CouplingTable.twin_eq_some_iff : t.twin source event target = some i ↔
    (∃ c, t.slots[i.val] = some c ∧ c.joins source event target) ∧
      ∀ j : SlotId, j < i → ∀ c, t.slots[j.val] = some c → ¬ c.joins source event target := by
  rw [twin, lowest_eq_some_iff, any_joins_eq_true_iff]
  exact and_congr_right fun _ => forall₂_congr fun j _ => any_joins_eq_false_iff

theorem CouplingTable.twin_eq_none_iff : t.twin source event target = none ↔
    ∀ (i : SlotId) (c : Coupling), t.slots[i.val] = some c → ¬ c.joins source event target := by
  rw [twin, lowest_eq_none_iff]
  exact forall_congr' fun i => any_joins_eq_false_iff

theorem CouplingTable.free_eq_some_iff : t.free = some i ↔
    t.slots[i.val] = none ∧ ∀ j : SlotId, j < i → t.slots[j.val] ≠ none := by
  simp only [free, lowest_eq_some_iff, Option.isNone_iff_eq_none, ← Bool.not_eq_true, ne_eq]

theorem CouplingTable.free_eq_none_iff : t.free = none ↔ ∀ i : SlotId, t.slots[i.val] ≠ none := by
  simp only [free, lowest_eq_none_iff, Option.isNone_iff_eq_none, ← Bool.not_eq_true, ne_eq]

end

/-! ### The codes of events and actions (R193) -/

theorem EventKind.ofCode_code (ev : EventKind) : EventKind.ofCode ev.code = some ev := by cases ev <;> rfl

theorem EventKind.ofCode_of_large {b : Byte} (h : 4 < b.toNat) : EventKind.ofCode b = none := List.getElem?_eq_none h

theorem EventKind.exists_ofCode {b : Byte} (h : b.toNat ≤ 4) : ∃ ev, EventKind.ofCode b = some ev :=
  ⟨_, List.getElem?_eq_getElem (Nat.lt_succ_of_le h)⟩

theorem Action.ofCode_code (a : Action) : Action.ofCode a.code = some a := by cases a <;> rfl

theorem Action.ofCode_of_large {b : Byte} (h : 2 < b.toNat) : Action.ofCode b = none := List.getElem?_eq_none h

/-! ### COUPLE_ADD, row by row (R129) -/

/-- A coupling as COUPLE_ADD stores it: nothing counted yet (R129). -/
def Coupling.fresh (source : ProbeId) (event : EventKind) (target : ProbeId) (action : Action) : Coupling :=
  { source := source, event := event, target := target, action := action, fires := 0, misses := 0 }

section
variable {source target : ProbeId} {event action : Byte} {ev : EventKind} {act : Action} {s : State}

theorem coupleAdd_of_badEvent (he : EventKind.ofCode event = none) :
    coupleAdd source event target action s = deny (.badValue 2) s := by
  unfold coupleAdd; rw [he]

variable (he : EventKind.ofCode event = some ev)
include he

theorem coupleAdd_of_self (h : target = source) : coupleAdd source event target action s = deny (.badValue 3) s := by
  unfold coupleAdd; rw [he]
  exact if_pos h

variable (h : target ≠ source)
include h

theorem coupleAdd_of_badAction (ha : Action.ofCode action = none) :
    coupleAdd source event target action s = deny (.badValue 4) s := by
  unfold coupleAdd; rw [he]; dsimp only
  rw [if_neg h, ha]

variable (ha : Action.ofCode action = some act)
include ha

/-- With every field good a twin is sought first (R129). -/
theorem coupleAdd_of_twin {i : SlotId} (ht : s.cpl.twin source ev target = some i) :
    coupleAdd source event target action s = deny (.duplicate i) s := by
  unfold CouplingTable.twin at ht
  unfold coupleAdd; rw [he]; dsimp only
  rw [if_neg h, ha]; dsimp only
  rw [ht]

variable (ht : s.cpl.twin source ev target = none)
include ht

theorem coupleAdd_of_full (hf : s.cpl.free = none) : coupleAdd source event target action s = deny .tableFull s := by
  unfold CouplingTable.twin at ht
  unfold CouplingTable.free at hf
  unfold coupleAdd; rw [he]; dsimp only
  rw [if_neg h, ha]; dsimp only
  rw [ht]; dsimp only
  rw [hf]

theorem coupleAdd_of_free {i : SlotId} (hf : s.cpl.free = some i) :
    coupleAdd source event target action s =
      answer (.coupleAdd i) (s.setCpl (s.cpl.put i (some (.fresh source ev target act)))) := by
  unfold CouplingTable.twin at ht
  unfold CouplingTable.free at hf
  unfold coupleAdd; rw [he]; dsimp only
  rw [if_neg h, ha]; dsimp only
  rw [ht]; dsimp only
  rw [hf]; rfl

end

/-- Everything COUPLE_ADD can do to the state: nothing, or a fresh coupling without a twin in a free slot (R128, R129). -/
theorem coupleAdd_cases (source : ProbeId) (event : Byte) (target : ProbeId) (action : Byte) (s : State) :
    (coupleAdd source event target action s).state = s ∨
      ∃ i ev act, target ≠ source ∧ s.cpl.twin source ev target = none ∧
        (coupleAdd source event target action s).state = s.setCpl (s.cpl.put i (some (.fresh source ev target act))) := by
  cases he : EventKind.ofCode event with
  | none => rw [coupleAdd_of_badEvent he]; exact .inl rfl
  | some ev =>
    by_cases h : target = source
    · rw [coupleAdd_of_self he h]; exact .inl rfl
    · cases ha : Action.ofCode action with
      | none => rw [coupleAdd_of_badAction he h ha]; exact .inl rfl
      | some act =>
        cases ht : s.cpl.twin source ev target with
        | some i => rw [coupleAdd_of_twin he h ha ht]; exact .inl rfl
        | none =>
          cases hf : s.cpl.free with
          | none => rw [coupleAdd_of_full he h ha ht hf]; exact .inl rfl
          | some i => exact .inr ⟨i, ev, act, h, ht, by rw [coupleAdd_of_free he h ha ht hf]; rfl⟩

/-! ### COUPLE_REMOVE (R130) -/

section
variable {slot : Byte} {i : SlotId} {s : State}

theorem slotOf_of_val (h : slot.toNat = i.val) : slotOf slot = some i := by
  rw [slotOf, dif_pos (h ▸ i.isLt)]
  exact congrArg some (Fin.ext h)

theorem slotOf_of_large (h : 23 < slot.toNat) : slotOf slot = none := dif_neg (by omega)

theorem coupleRemove_of_badSlot (h : slotOf slot = none) : coupleRemove slot s = deny (.badValue 1) s := by
  unfold coupleRemove; rw [h]

theorem coupleRemove_of_empty (h : slotOf slot = some i) (hc : s.cpl.slots[i.val] = none) :
    coupleRemove slot s = deny .noSuchCoupling s := by
  unfold coupleRemove; rw [h]; dsimp only
  rw [hc]

theorem coupleRemove_of_occupied (h : slotOf slot = some i) {c : Coupling} (hc : s.cpl.slots[i.val] = some c) :
    coupleRemove slot s = answer (.coupleRemove c) (s.setCpl (s.cpl.put i none)) := by
  unfold coupleRemove; rw [h]; dsimp only
  rw [hc]; rfl

end

theorem coupleRemove_cases (slot : Byte) (s : State) :
    (coupleRemove slot s).state = s ∨ ∃ i, (coupleRemove slot s).state = s.setCpl (s.cpl.put i none) := by
  cases h : slotOf slot with
  | none => rw [coupleRemove_of_badSlot h]; exact .inl rfl
  | some i => cases hc : s.cpl.slots[i.val] with
    | none => rw [coupleRemove_of_empty h hc]; exact .inl rfl
    | some c => rw [coupleRemove_of_occupied h hc]; exact .inr ⟨i, rfl⟩

/-! ### What a coupling never changes (R127) -/

/-- The four fields of a coupling that stand from its COUPLE_ADD to its COUPLE_REMOVE; its counts do not (R127, R135). -/
def Coupling.fixed (c : Coupling) : ProbeId × EventKind × ProbeId × Action := (c.source, c.event, c.target, c.action)

/-- Every slot is as it was, but for the counts of its coupling. -/
def FixedKept (a b : CouplingTable) : Prop := ∀ i : SlotId, (b.slots[i.val]).map Coupling.fixed = (a.slots[i.val]).map Coupling.fixed

theorem FixedKept.refl (a : CouplingTable) : FixedKept a a := fun _ => rfl

theorem FixedKept.trans {a b c : CouplingTable} (h : FixedKept a b) (k : FixedKept b c) : FixedKept a c := fun i => (k i).trans (h i)

theorem countAction_fixedKept (slot : SlotId) (fired : Bool) (s : State) : FixedKept s.cpl (countAction slot fired s).cpl := by
  unfold countAction
  cases hc : s.cpl.slots[slot.val] with
  | none => exact .refl _
  | some c =>
    intro i
    change ((s.cpl.put slot _).slots[i.val]).map Coupling.fixed = _
    by_cases hi : i = slot
    · rw [hi, CouplingTable.put_slot_self, hc]
      cases fired <;> rfl
    · rw [CouplingTable.put_slot_ne _ _ hi]

end Sys2Proof.Machine
end

section
/-! SUPPORT. O57: what each elementary change makes of the Coupling Table, and that it keeps the couplings distinct. -/

namespace Sys2Proof.Machine

/-! ### What each change makes of the table -/

/-- Every coupling of `b` stood in its slot of `a` already, with the same fixed fields. -/
def Within (a b : CouplingTable) : Prop :=
  ∀ (i : SlotId) (c : Coupling), b.slots[i.val] = some c → ∃ d, a.slots[i.val] = some d ∧ c.fixed = d.fixed

/-- What a change can make of the Coupling Table: couplings counted or removed, or a coupling added that is no loop and has no twin. -/
inductive Retabled (a : CouplingTable) : CouplingTable → Prop
  | within {b : CouplingTable} (h : Within a b) : Retabled a b
  | added (i : SlotId) {source target : ProbeId} {ev : EventKind} {act : Action} (h : target ≠ source)
      (ht : a.twin source ev target = none) : Retabled a (a.put i (some (.fresh source ev target act)))

theorem FixedKept.within {a b : CouplingTable} (h : FixedKept a b) : Within a b := by
  intro i c hc
  have hi := h i
  rw [hc] at hi
  obtain ⟨d, hd, e⟩ := Option.map_eq_some_iff.1 hi.symm
  exact ⟨d, hd, e.symm⟩

theorem FixedKept.retabled {a b : CouplingTable} (h : FixedKept a b) : Retabled a b := .within h.within

theorem Retabled.kept {a : CouplingTable} : Retabled a a := (FixedKept.refl a).retabled

theorem Retabled.of_eq {a b : CouplingTable} (h : b = a) : Retabled a b := h ▸ .kept

theorem removed_within (t : CouplingTable) (i : SlotId) : Within t (t.put i none) := by
  intro j c hc
  by_cases hj : j = i
  · rw [hj, CouplingTable.put_slot_self] at hc; cases hc
  · rw [CouplingTable.put_slot_ne _ _ hj] at hc
    exact ⟨c, hc, rfl⟩

theorem coupleAdd_retabled (source : ProbeId) (event : Byte) (target : ProbeId) (action : Byte) (s : State) :
    Retabled s.cpl (coupleAdd source event target action s).state.cpl := by
  rcases coupleAdd_cases source event target action s with e | ⟨i, ev, act, h, ht, e⟩ <;> rw [e]
  · exact .kept
  · exact .added i h ht

theorem coupleRemove_retabled (slot : Byte) (s : State) : Retabled s.cpl (coupleRemove slot s).state.cpl := by
  rcases coupleRemove_cases slot s with e | ⟨i, e⟩ <;> rw [e]
  · exact .kept
  · exact .within (removed_within s.cpl i)

theorem lineSet_cpl (line profile : Byte) (s : State) : (lineSet line profile s).state.cpl = s.cpl := by
  unfold lineSet
  split
  · rfl
  · split <;> rfl

theorem profileSet_cpl (profile : Byte) (threshold : BitVec 16) (s : State) : (profileSet profile threshold s).state.cpl = s.cpl := by
  unfold profileSet
  split
  · rfl
  · split <;> rfl

theorem stageBegin_cpl (p : ProbeId) (lease : BitVec 32) (s : State) : (stageBegin p lease s).state.cpl = s.cpl := by
  unfold stageBegin; dsimp only
  split
  · rfl
  · split
    · rfl
    · split
      · split <;> rfl
      · rfl

theorem stageParams_cpl (p : ProbeId) (record : PlanRecord) (s : State) : (stageParams p record s).state.cpl = s.cpl := by
  rcases asOwner_cases p s _ with e | ⟨stage, -, e⟩ <;> rw [stageParams, e]
  dsimp only
  split
  · rfl
  · split <;> rfl

theorem stageEdges_cpl (p : ProbeId) (chunk : Byte) (edges : List Sample32) (s : State) :
    (stageEdges p chunk edges s).state.cpl = s.cpl := by
  rcases asOwner_cases p s _ with e | ⟨stage, -, e⟩ <;> rw [stageEdges, e]
  cases stage with
  | opened | complete | pending => rfl
  | edges =>
    dsimp only
    split
    · rfl
    · split
      · rfl
      · split <;> rfl

theorem BlockChange.retabled {s t : State} (h : BlockChange s t) : Retabled s.cpl t.cpl := by
  cases h with
  | countAction slot fired => exact (countAction_fixedKept slot fired s).retabled
  | coupleAdd source event target action => exact coupleAdd_retabled source event target action s
  | coupleRemove slot => exact coupleRemove_retabled slot s
  | cut | countersCleared => exact FixedKept.retabled fun _ => rfl
  | lineSet => exact .of_eq (lineSet_cpl _ _ _)
  | profileSet => exact .of_eq (profileSet_cpl _ _ _)
  | stageBegin => exact .of_eq (stageBegin_cpl _ _ _)
  | stageParams => exact .of_eq (stageParams_cpl _ _ _)
  | stageEdges => exact .of_eq (stageEdges_cpl _ _ _ _)
  | schedule | commands | raised | actions | occasion | mark | filtered | commitPending | released | credits | resetPending =>
    exact .kept

theorem offerSystem_cpl (s : State) (r : Report) : (s.offerSystem r).cpl = s.cpl := by
  unfold State.offerSystem; split <;> rfl

theorem ClaimChange.retabled {s t : State} (h : ClaimChange s t) : Retabled s.cpl t.cpl := by
  cases h with
  | block h => exact h.retabled
  | dequeued => exact .of_eq s.dequeue_cpl
  | systemReport r => exact .of_eq (offerSystem_cpl s r)
  | probeReset p => rw [resetProbe_eq]; exact .kept
  | record | swapped | installed | enqueued | lost => exact .kept

theorem transmitReply_cpl (s : State) : (transmitReply s).cpl = s.cpl := by
  unfold transmitReply; split <;> rfl

theorem resetPart_slot (rs1 rs0 lrx : Bool) (cause : ResetCause) (s : State) (i : SlotId) :
    (resetPart rs1 rs0 lrx cause s).cpl.slots[i.val] = none := by
  obtain ⟨hv, -⟩ := resetPart_values rs1 rs0 lrx cause s
  obtain ⟨hslots, -⟩ := hv.table
  exact hslots i

theorem Change.retabled {s t : State} (h : Change s t) : Retabled s.cpl t.cpl := by
  cases h with
  | claim h => exact h.retabled
  | transmitted => exact .of_eq (transmitReply_cpl s)
  | link | replayed | replied | tick => exact .kept
  | reset rs1 rs0 lrx cause => exact .within fun i c hc => nomatch (resetPart_slot rs1 rs0 lrx cause s i).symm.trans hc

/-! ### The couplings stay distinct (R128) -/

theorem Coupling.joins_of_fixed {c d : Coupling} (h : c.fixed = d.fixed) : c.joins d.source d.event d.target := by
  simp only [Coupling.fixed, Prod.mk.injEq] at h
  obtain ⟨hs, he, ht, -⟩ := h
  exact ⟨hs, he, ht⟩

theorem Within.keeps_distinct {a b : CouplingTable} (h : Within a b) (ha : CouplingsDistinct a) : CouplingsDistinct b where
  noSelf i c hc := by
    obtain ⟨c', hc', e⟩ := h i c hc
    obtain ⟨hs, -, ht⟩ := Coupling.joins_of_fixed e
    rw [hs, ht]
    exact ha.noSelf i c' hc'
  noTwin i j c d hc hd hs he ht := by
    obtain ⟨c', hc', ec⟩ := h i c hc
    obtain ⟨d', hd', ed⟩ := h j d hd
    obtain ⟨cs, ce, ct⟩ := Coupling.joins_of_fixed ec
    obtain ⟨ds, de, dt⟩ := Coupling.joins_of_fixed ed
    rw [cs, ds] at hs
    rw [ce, de] at he
    rw [ct, dt] at ht
    exact ha.noTwin i j c' d' hc' hd' hs he ht

/-- A coupling of a table with one slot written is the written one, or stood there before. -/
theorem CouplingTable.put_slot_eq_some {t : CouplingTable} {i j : SlotId} {c d : Coupling}
    (h : (t.put i (some c)).slots[j.val] = some d) : (j = i ∧ d = c) ∨ (j ≠ i ∧ t.slots[j.val] = some d) := by
  by_cases hj : j = i
  · subst hj
    rw [put_slot_self] at h
    exact .inl ⟨rfl, (Option.some.inj h).symm⟩
  · rw [put_slot_ne _ _ hj] at h
    exact .inr ⟨hj, h⟩

theorem CouplingsDistinct.added {t : CouplingTable} (h : CouplingsDistinct t) (i : SlotId) {source target : ProbeId} {ev : EventKind}
    (act : Action) (hself : target ≠ source) (htwin : t.twin source ev target = none) :
    CouplingsDistinct (t.put i (some (.fresh source ev target act))) where
  noSelf j c hc := by
    rcases CouplingTable.put_slot_eq_some hc with ⟨-, rfl⟩ | ⟨-, hc⟩
    · exact hself.symm
    · exact h.noSelf j c hc
  noTwin j k c d hc hd hs he ht := by
    have hnone := CouplingTable.twin_eq_none_iff.1 htwin
    rcases CouplingTable.put_slot_eq_some hc with ⟨hj, rfl⟩ | ⟨-, hc⟩ <;>
      rcases CouplingTable.put_slot_eq_some hd with ⟨hk, rfl⟩ | ⟨-, hd⟩
    · exact hj.trans hk.symm
    · exact absurd ⟨hs.symm, he.symm, ht.symm⟩ (hnone k d hd)
    · exact absurd ⟨hs, he, ht⟩ (hnone j c hc)
    · exact h.noTwin j k c d hc hd hs he ht

theorem Retabled.keeps_distinct {a b : CouplingTable} (h : Retabled a b) (ha : CouplingsDistinct a) : CouplingsDistinct b := by
  cases h with
  | within h => exact h.keeps_distinct ha
  | added i h ht => exact ha.added i _ h ht

/-- Settles O57: each change keeps the couplings distinct (`Retabled.keeps_distinct`), and a step is a sequence of them. -/
theorem couplingsStayDistinct : Obligations.CouplingsStayDistinct := by
  intro s t hs e
  exact (step_changes e).keeps (P := fun u => CouplingsDistinct u.cpl) (fun _ _ hu h => h.retabled.keeps_distinct hu) hs

end Sys2Proof.Machine
end

section
/-! SUPPORT. O32: COUPLE_ADD and COUPLE_REMOVE as requests (R129, R130, R179). -/

namespace Sys2Proof.Machine

/-! ### The two requests of an accepted frame -/

section
variable {s w : State} {tag : Byte} {reply : Reply} (h : Accepts s 0x40 tag) (hw : s.actions = [])
include h hw

/-- COUPLE_ADD with both probe fields good goes to the table (R129, R179). -/
theorem execCoupleAdd_of_answer {a event b action : Byte} {source target : ProbeId} (ha : a.toNat = source.val)
    (hb : b.toNat = target.val) (he : coupleAdd source event target action s.counted = answer reply w) :
    exec (.coupleAdd tag a event b action) s = .next (w.replied 0x40 tag reply) := by
  have hexec : execute (.coupleAdd a event b action) s.counted = answer reply w :=
    (withProbe_of_val ha _ _).trans ((withProbe_of_val hb _ _).trans he)
  exact hostRequest_answered (r := .coupleAdd a event b action) h hexec rfl fun _ => hw

/-- A probe field above 15 is refused before the table (R179). -/
theorem execCoupleAdd_of_badProbe {a event b action : Byte} (hp : 15 < a.toNat ∨ 15 < b.toNat) :
    exec (.coupleAdd tag a event b action) s = .next (s.counted.replied 0x40 tag (.denied .badProbe)) := by
  have hexec : execute (.coupleAdd a event b action) s.counted = deny .badProbe s.counted := by
    by_cases ha : 15 < a.toNat
    · exact withProbe_of_large ha _ _
    · exact (withProbe_of_val (p := ⟨a.toNat, Nat.lt_succ_of_le (Nat.not_lt.1 ha)⟩) rfl _ _).trans
        (withProbe_of_large (hp.resolve_left ha) _ _)
  exact hostRequest_denied (r := .coupleAdd a event b action) h hexec rfl fun _ => hw

end

theorem execCoupleRemove_of_answer {s w : State} {tag slot : Byte} {reply : Reply} (h : Accepts s 0x41 tag) (hw : s.actions = [])
    (he : coupleRemove slot s.counted = answer reply w) :
    exec (.coupleRemove tag slot) s = .next (w.replied 0x41 tag reply) :=
  hostRequest_answered (r := .coupleRemove slot) h he rfl fun _ => hw

/-- Settles O32: the rows of R129 in order (`coupleAdd_of_badEvent` to `coupleAdd_of_free`), and then those of R130. -/
theorem couplingRequestsKeepTheTable : Obligations.CouplingRequestsKeepTheTable := by
  refine ⟨fun tag a event b action s h hw => ⟨execCoupleAdd_of_badProbe h hw, fun source target ha hb => ?_⟩,
    fun tag slot s h hw => ⟨fun hs => ?_, fun i hi => ⟨fun hc => ?_, fun c hc => ?_⟩⟩⟩
  · refine ⟨fun he => ?_, fun he hself => ?_, fun he hne hact => ?_, fun ev act hev hact hne => ?_⟩
    · exact execCoupleAdd_of_answer h hw ha hb (coupleAdd_of_badEvent (EventKind.ofCode_of_large he))
    · obtain ⟨ev, hev⟩ := EventKind.exists_ofCode he
      exact execCoupleAdd_of_answer h hw ha hb (coupleAdd_of_self hev hself)
    · obtain ⟨ev, hev⟩ := EventKind.exists_ofCode he
      exact execCoupleAdd_of_answer h hw ha hb (coupleAdd_of_badAction hev hne (Action.ofCode_of_large hact))
    · have hev' : EventKind.ofCode event = some ev := hev ▸ EventKind.ofCode_code ev
      have hact' : Action.ofCode action = some act := hact ▸ Action.ofCode_code act
      refine ⟨fun i c hc hsame hfirst => ?_, fun hnone => ?_⟩
      · have htwin : s.cpl.twin source ev target = some i :=
          CouplingTable.twin_eq_some_iff.2 ⟨⟨c, hc, hsame⟩, fun j hj d => hfirst j d hj⟩
        exact execCoupleAdd_of_answer h hw ha hb (coupleAdd_of_twin (s := s.counted) hev' hne hact' htwin)
      · have htwin : s.cpl.twin source ev target = none := CouplingTable.twin_eq_none_iff.2 hnone
        refine ⟨fun hfull => ?_, fun i hi hfirst => ?_⟩
        · exact execCoupleAdd_of_answer h hw ha hb
            (coupleAdd_of_full (s := s.counted) hev' hne hact' htwin (CouplingTable.free_eq_none_iff.2 hfull))
        · exact execCoupleAdd_of_answer h hw ha hb
            (coupleAdd_of_free (s := s.counted) hev' hne hact' htwin (CouplingTable.free_eq_some_iff.2 ⟨hi, hfirst⟩))
  · exact execCoupleRemove_of_answer h hw (coupleRemove_of_badSlot (slotOf_of_large hs))
  · exact execCoupleRemove_of_answer h hw (coupleRemove_of_empty (s := s.counted) (slotOf_of_val hi) hc)
  · exact execCoupleRemove_of_answer h hw (coupleRemove_of_occupied (s := s.counted) (slotOf_of_val hi) hc)

end Sys2Proof.Machine
end

section
/-! SUPPORT. O34: the couplings that name an event, and what the table does with it (R134, R137, R139). -/

namespace Sys2Proof.Machine

/-! ### The couplings that name an event -/

section
variable {t : CouplingTable} {source : ProbeId} {kind : EventKind}

/-- Slot `i` with its coupling, where that names the event (R134). -/
def CouplingTable.naming (t : CouplingTable) (source : ProbeId) (kind : EventKind) (i : SlotId) : Option (SlotId × Coupling) :=
  match t.slots[i.val] with
  | none => none
  | some c => if c.source = source ∧ c.event = kind then some (i, c) else none

theorem CouplingTable.matching_eq : t.matching source kind = (List.finRange 24).filterMap (t.naming source kind) := rfl

theorem CouplingTable.naming_eq_some_iff {i : SlotId} {x : SlotId × Coupling} :
    t.naming source kind i = some x ↔ x.1 = i ∧ t.slots[i.val] = some x.2 ∧ x.2.source = source ∧ x.2.event = kind := by
  obtain ⟨j, d⟩ := x
  unfold naming
  cases t.slots[i.val] with
  | none => simp
  | some c => grind

theorem CouplingTable.mem_matching_iff {i : SlotId} {c : Coupling} :
    (i, c) ∈ t.matching source kind ↔ t.slots[i.val] = some c ∧ c.source = source ∧ c.event = kind := by
  simp only [matching_eq, List.mem_filterMap, List.mem_finRange, true_and, naming_eq_some_iff, exists_eq_left']

theorem CouplingTable.matching_ascending : (t.matching source kind).Pairwise fun x y => x.1 < y.1 := by
  rw [matching_eq]
  refine List.Pairwise.filterMap _ (fun i j hij x hx y hy => ?_) (List.pairwise_lt_finRange 24)
  obtain ⟨hi, -⟩ := naming_eq_some_iff.1 hx
  obtain ⟨hj, -⟩ := naming_eq_some_iff.1 hy
  rw [hi, hj]; exact hij

theorem CouplingTable.matching_eq_nil
    (h : ∀ (i : SlotId) (c : Coupling), t.slots[i.val] = some c → ¬ (c.source = source ∧ c.event = kind)) :
    t.matching source kind = [] := by
  rw [List.eq_nil_iff_forall_not_mem]
  rintro ⟨i, c⟩ hm
  obtain ⟨hc, hn⟩ := mem_matching_iff.1 hm
  exact h i c hc hn

theorem CouplingTable.slots_toList (t : CouplingTable) : t.slots.toList = (List.finRange 24).map fun i => t.slots[i.val] := by
  rw [← List.ofFn_eq_map]
  exact List.ext_getElem (by simp) fun n _ _ => by rw [Vector.getElem_toList, List.getElem_ofFn]

/-- The couplings that name an event, counted in the slots themselves. -/
theorem CouplingTable.matching_length : (t.matching source kind).length =
    (t.slots.toList.filter fun o => o.any fun c => c.source == source && c.event == kind).length := by
  rw [matching_eq, List.length_filterMap_eq_countP, ← List.countP_eq_length_filter, slots_toList, List.countP_map]
  refine List.countP_congr fun i _ => ?_
  unfold naming
  cases hc : t.slots[i.val] with
  | none => simp [hc]
  | some c => simp [hc]

end

/-! ### What the table does with an event (R134, R137) -/

/-- The action that an event of this depth causes through a coupling, one depth deeper (R134). -/
def actionThrough (depth : Nat) (x : SlotId × Coupling) : Waiting :=
  { slot := x.1, target := x.2.target, action := x.2.action, depth := depth + 1 }

theorem takeEvent_of_shallow {e : Event} (h : e.depth < 4) (s : State) :
    takeEvent e s = s.setActions (s.actions ++ (s.cpl.matching e.source e.kind).map (actionThrough e.depth)) := if_pos h

theorem takeEvent_of_deep {e : Event} (h : 4 ≤ e.depth) (s : State) :
    takeEvent e s = s.setCpl { s.cpl with cascadeCut := satAdd s.cpl.cascadeCut (s.cpl.matching e.source e.kind).length } :=
  if_neg (Nat.not_lt.2 h)

theorem mem_map_actionThrough_iff {t : CouplingTable} {e : Event} {w : Waiting} :
    w ∈ (t.matching e.source e.kind).map (actionThrough e.depth) ↔
      ∃ c, t.slots[w.slot.val] = some c ∧ c.source = e.source ∧ c.event = e.kind ∧ w.target = c.target ∧
        w.action = c.action ∧ w.depth = e.depth + 1 := by
  rw [List.mem_map]
  constructor
  · rintro ⟨⟨i, c⟩, hm, rfl⟩
    obtain ⟨hc, hs, hk⟩ := CouplingTable.mem_matching_iff.1 hm
    exact ⟨c, hc, hs, hk, rfl, rfl, rfl⟩
  · rintro ⟨c, hc, hs, hk, ht, ha, hd⟩
    exact ⟨(w.slot, c), CouplingTable.mem_matching_iff.2 ⟨hc, hs, hk⟩, by rw [actionThrough, ← ht, ← ha, ← hd]⟩

/-- Settles O34: above the limit the actions of the couplings that name the event, in slot order, and below it their number. -/
theorem eventsActThroughTheirCouplings : Obligations.EventsActThroughTheirCouplings := by
  refine fun s e => ⟨fun h => ⟨_, takeEvent_of_shallow h s, fun w => mem_map_actionThrough_iff, ?_⟩, fun h => ?_⟩
  · exact List.pairwise_map.2 CouplingTable.matching_ascending
  · intro named
    have hn : (s.cpl.matching e.source e.kind).length = named := CouplingTable.matching_length
    rw [takeEvent_of_deep h, hn]; rfl

end Sys2Proof.Machine
end

section
/-! SUPPORT. O36: what goes on behind a command leaves the couplings' fixed fields and the system-lost counter (R127, R132, R152). -/

namespace Sys2Proof.Machine

/-! ### The claims that reach neither the table nor the system share -/

/-- The Coupling Table and the system-lost counter are as they were. -/
structure TableKept (s t : State) : Prop where
  cpl : t.cpl = s.cpl
  systemLost : t.rpq.systemLost = s.rpq.systemLost

theorem TableKept.refl (s : State) : TableKept s s := ⟨rfl, rfl⟩

theorem TableKept.trans {a b c : State} (h : TableKept a b) (k : TableKept b c) : TableKept a c :=
  ⟨k.cpl.trans h.cpl, k.systemLost.trans h.systemLost⟩

theorem choose_tableKept (s : State) (n : Nat) : TableKept s (s.choose n).state := by
  obtain ⟨sch, e⟩ := s.choose_state n
  rw [e]; exact ⟨rfl, rfl⟩

theorem dequeue_tableKept (s : State) : TableKept s s.dequeue := by
  refine ⟨s.dequeue_cpl, ?_⟩
  unfold State.dequeue
  split
  · rfl
  · split <;> rfl

theorem raceDequeue_tableKept (s : State) : TableKept s s.raceDequeue := by
  refine ⟨s.raceDequeue_cpl, ?_⟩
  rcases s.raceDequeue_cases with ⟨sch, e⟩ | ⟨-, sch, e⟩ <;> rw [e]
  · rfl
  · exact (dequeue_tableKept (s.setSchedule sch)).systemLost

theorem generate_tableKept (s : State) (p : ProbeId) (body : ReportBody) : TableKept s (s.generate p body).state := by
  refine (raceDequeue_tableKept s).trans ?_
  rcases s.generate_cases p body with ⟨-, e⟩ | ⟨-, e⟩ <;> rw [e] <;> exact ⟨rfl, rfl⟩

theorem takeIn_tableKept (p : ProbeId) (s : State) : TableKept s (takeIn p s) := by
  refine ⟨?_, by rw [takeIn_rpq]⟩
  unfold takeIn
  split
  · rcases madeStep_cases s with ⟨-, e⟩ | ⟨-, pins, sch, e⟩ <;> rw [e] <;> rfl
  · rfl

theorem startRun_tableKept (p : ProbeId) (depth : Nat) (s : State) : TableKept s (startRun p depth s).state :=
  ⟨startRun_cpl p depth s, by rw [startRun_rpq]⟩

theorem swapPending_tableKept (p : ProbeId) (s : State) : TableKept s (swapPending p s).state := by
  obtain ⟨-, hr, -⟩ := swapPending_link p s
  exact ⟨swapPending_cpl p s, by rw [hr]⟩

theorem endRun_tableKept (p : ProbeId) (pl : Plan) (o : RunOutcome) (byStop : Bool) (s : State) :
    TableKept s (endRun p pl o byStop s) :=
  (⟨rfl, rfl⟩ : TableKept s (s.setProbe p ((s.probe p).ended o))).trans (generate_tableKept _ _ _)

theorem stopRun_tableKept (p : ProbeId) (o : RunOutcome) (depth : Nat) (s : State) : TableKept s (stopRun p o depth s).state := by
  have hs : TableKept s (s.stopped p o) := by
    unfold State.stopped
    split
    · exact ⟨rfl, rfl⟩
    · exact endRun_tableKept _ _ _ _ _
  rw [stopRun_eq]
  exact hs.trans (swapPending_tableKept _ _)

theorem finishWindow_tableKept (p : ProbeId) (pl : Plan) (result : QualResult) (ended : Bool) (s : State) :
    TableKept s (finishWindow p pl result ended s) := by
  have hs := swapPending_tableKept p s
  unfold finishWindow; dsimp only
  split <;> exact ⟨hs.cpl, hs.systemLost⟩

theorem standing_tableKept (s : State) (pauses : Bool) : TableKept s (s.standing pauses).state := choose_tableKept _ _

theorem offerReports_tableKept (pauses : Bool) (p : ProbeId) (bodies : List ReportBody) (lost : Bool) (s : State) :
    TableKept s (offerReports pauses p bodies lost s).state := by
  induction bodies generalizing lost s with
  | nil => exact .refl s
  | cons b bs ih =>
    have hs := standing_tableKept s pauses
    by_cases h : (s.standing pauses).index = 1
    · rw [offerReports_cons_stands h]; exact hs
    · rw [offerReports_cons_goes_on h]; exact hs.trans ((generate_tableKept _ _ _).trans (ih _ _))

theorem closeWindow_tableKept (pauses : Bool) (p : ProbeId) (pl : Plan) (result : QualResult) (lost : Bool) (s : State) :
    TableKept s (closeWindow pauses p pl result lost s) := by
  have hs := standing_tableKept s pauses
  rcases closeWindow_cases pauses p pl result lost s with ⟨-, e⟩ | ⟨o, -, ⟨-, e⟩ | ⟨-, e⟩⟩ <;> rw [e]
  · exact finishWindow_tableKept _ _ _ _ _
  · exact ⟨hs.cpl, hs.systemLost⟩
  · exact hs.trans ((endRun_tableKept _ _ _ _ _).trans (finishWindow_tableKept _ _ _ _ _))

theorem offerAndClose_tableKept (pauses : Bool) (p : ProbeId) (pl : Plan) (result : QualResult) (bodies : List ReportBody) (lost : Bool)
    (s : State) : TableKept s (offerAndClose pauses p pl result bodies lost s) := by
  have ho := offerReports_tableKept pauses p bodies lost s
  unfold offerAndClose; dsimp only
  split
  · exact ⟨ho.cpl, ho.systemLost⟩
  · exact ho.trans (closeWindow_tableKept _ _ _ _ _ _)

theorem continueOccasion_tableKept (pauses : Bool) (s : State) : TableKept s (continueOccasion pauses s) := by
  have h0 : TableKept s (s.setOccasion none) := ⟨rfl, rfl⟩
  rcases continueOccasion_cases pauses s with ⟨-, e⟩ | e | ⟨p, pl, result, bodies, lost, e⟩ <;> rw [e]
  · exact .refl s
  · exact h0
  · exact h0.trans (offerAndClose_tableKept _ _ _ _ _ _ _)

theorem takeAction_tableKept (p : ProbeId) (a : Action) (depth : Nat) (s : State) :
    TableKept s (takeAction p a depth s).effect.state := by
  rcases takeAction_cases p a depth s with e | ⟨-, -, e⟩ | ⟨-, -, e⟩ | ⟨-, -, e⟩ | ⟨-, -, pl, -, -, e⟩ <;> rw [e]
  · exact .refl s
  · exact startRun_tableKept _ _ _
  · exact (takeIn_tableKept _ _).trans (stopRun_tableKept _ _ _ _)
  · exact ⟨rfl, rfl⟩
  · exact (takeIn_tableKept _ _).trans (generate_tableKept _ _ _)

/-! ### The chains, which count fires, misses and cuts (R135, R137) -/

/-- Nothing of the table is changed but its counts, and no system report is lost. -/
structure CountsAlone (s t : State) : Prop where
  fixed : FixedKept s.cpl t.cpl
  systemLost : t.rpq.systemLost = s.rpq.systemLost

theorem CountsAlone.trans {a b c : State} (h : CountsAlone a b) (k : CountsAlone b c) : CountsAlone a c :=
  ⟨h.fixed.trans k.fixed, k.systemLost.trans h.systemLost⟩

theorem TableKept.countsAlone {s t : State} (h : TableKept s t) : CountsAlone s t := ⟨h.cpl ▸ .refl _, h.systemLost⟩

theorem countAction_countsAlone (slot : SlotId) (fired : Bool) (s : State) : CountsAlone s (countAction slot fired s) := by
  refine ⟨countAction_fixedKept slot fired s, ?_⟩
  unfold countAction
  split <;> rfl

theorem chainKept_countsAlone (s : State) : ChainKept (CountsAlone s) where
  schedule _ _ h := ⟨h.fixed, h.systemLost⟩
  raised _ _ h := ⟨h.fixed, h.systemLost⟩
  actions _ _ h := ⟨h.fixed, h.systemLost⟩
  action _ _ _ _ h := h.trans (takeAction_tableKept _ _ _ _).countsAlone
  count _ _ _ h := h.trans (countAction_countsAlone _ _ _)
  cut _ _ h := ⟨h.fixed, h.systemLost⟩

theorem resume_countsAlone (s : State) : CountsAlone s s.resume := by
  have h := (continueOccasion_tableKept true s).countsAlone
  unfold State.resume; dsimp only
  split
  · exact h
  · exact (chainKept_countsAlone s).runChain _ _ h

theorem finish_countsAlone (s : State) : CountsAlone s s.finish :=
  (chainKept_countsAlone s).runChain _ _ (continueOccasion_tableKept false s).countsAlone

/-! ### O36 -/

/-- A link kept but for its transmitter and its sequence number, as one equation. -/
theorem HostLinkKept.eq {a b : HostLink} (h : HostLinkKept a b) :
    b = { a with transmitter := b.transmitter, sequence := b.sequence } := by
  obtain ⟨h1, h2, h3, h4, h5, h6, h7, h8, h9⟩ := h
  rw [← h1, ← h2, ← h3, ← h4, ← h5, ← h6, ← h7, ← h8, ← h9]

theorem takeEvent_of_unnamed {e : Event} {s : State} (h : s.cpl.matching e.source e.kind = []) : takeEvent e s = s := by
  have hsat : satAdd s.cpl.cascadeCut 0 = s.cpl.cascadeCut := ofNat_min_add_zero _
  rcases Nat.lt_or_ge e.depth 4 with hd | hd
  · rw [takeEvent_of_shallow hd, h, List.map_nil, List.append_nil]; rfl
  · rw [takeEvent_of_deep hd, h, List.length_nil, hsat]; rfl

/-- Settles O36: what every claim keeps (`State.resume_keeps`, `State.finish_keeps`), with the table and the system-lost counter
(`CountsAlone`); and an event without couplings. -/
theorem cascadesKeepTheRestOfThePart : Obligations.CascadesKeepTheRestOfThePart := by
  refine ⟨fun s t ht => ?_, fun e s h => takeEvent_of_unnamed (CouplingTable.matching_eq_nil h)⟩
  obtain ⟨hk, hc⟩ : ClaimKeeps s t ∧ CountsAlone s t := by
    rcases ht with rfl | rfl
    · exact ⟨s.resume_keeps, resume_countsAlone s⟩
    · exact ⟨s.finish_keeps, finish_countsAlone s⟩
  exact ⟨hk.timebase, hk.lfe, hk.pending, hc.systemLost, hk.hli.eq, hc.fixed⟩

end Sys2Proof.Machine
end

section
/-! SUPPORT. O53: what the elementary changes do to the two shares of the Report Queue and to the reply queue and cache (R146, R147,
R152, R177, R182). -/

namespace Sys2Proof.Machine

/-! ### The invariant as two: the shares of the Report Queue, and the places of the replies -/

/-- At most 60 probe reports and 4 system reports wait (R146). -/
def ReportQueue.WithinShares (q : ReportQueue) : Prop := q.probeTotal ≤ Config.probeShare ∧ q.systemTotal ≤ Config.systemShare

/-- At most four replies wait, and at most four are cached, with distinct non-zero tags (R177, R182). -/
structure HostLink.WithinPlaces (h : HostLink) : Prop where
  replies : h.replies.length ≤ Config.replyQueueSize
  cache : h.cache.length ≤ Config.replyCacheSize
  tagsNonzero : ∀ e ∈ h.cache, e.tag ≠ 0
  tagsNodup : (h.cache.map (·.tag)).Nodup

theorem storesBounded_iff (s : State) : StoresBounded s ↔ s.rpq.WithinShares ∧ s.hli.WithinPlaces :=
  ⟨fun ⟨hp, hs, hr, hc, hz, hn⟩ => ⟨⟨hp, hs⟩, ⟨hr, hc, hz, hn⟩⟩, fun ⟨⟨hp, hs⟩, ⟨hr, hc, hz, hn⟩⟩ => ⟨hp, hs, hr, hc, hz, hn⟩⟩

/-! ### The Report Queue -/

theorem ReportQueue.WithinShares.congr {a b : ReportQueue} (h : a.WithinShares) (e : b.entries = a.entries) : b.WithinShares := by
  unfold ReportQueue.WithinShares ReportQueue.probeTotal ReportQueue.systemTotal at *
  rw [e]; exact h

/-- Reports that leave the queue leave the shares met (R155, R160). -/
theorem ReportQueue.WithinShares.sublist {a b : ReportQueue} (h : a.WithinShares) (hs : b.entries.Sublist a.entries) : b.WithinShares :=
  ⟨hs.countP_le.trans h.1, hs.countP_le.trans h.2⟩

theorem enqueueReport_systemTotal (s : State) (p : ProbeId) (body : ReportBody) :
    (s.enqueueReport p body).rpq.systemTotal = s.rpq.systemTotal := by
  simp [ReportQueue.systemTotal, State.enqueueReport, Report.source]

theorem probeTotal_of_hasRoom {s : State} {p : ProbeId} (h : s.hasRoom p = true) : s.rpq.probeTotal < 60 := (of_decide_eq_true h).1

/-- A probe report enters only within the probe share (R147). -/
theorem ReportQueue.WithinShares.enqueued {s : State} {p : ProbeId} (h : s.rpq.WithinShares) (hr : s.hasRoom p = true)
    (body : ReportBody) : (s.enqueueReport p body).rpq.WithinShares := by
  have ht : s.rpq.probeTotal + 1 ≤ Config.probeShare := probeTotal_of_hasRoom hr
  unfold ReportQueue.WithinShares
  rw [enqueueReport_probeTotal, enqueueReport_systemTotal]
  exact ⟨ht, h.2⟩

/-- A system report enters only within the system share (R152). -/
theorem ReportQueue.WithinShares.offeredSystem {s : State} (h : s.rpq.WithinShares) {r : Report} (hr : r.source = none) :
    (s.offerSystem r).rpq.WithinShares := by
  rcases Nat.lt_or_ge s.rpq.systemTotal 4 with hl | hl
  · have hp : (s.offerSystem r).rpq.probeTotal = s.rpq.probeTotal := by
      rw [offerSystem_of_room hl]; simp [ReportQueue.probeTotal, hr]
    have hs : (s.offerSystem r).rpq.systemTotal = s.rpq.systemTotal + 1 := by
      rw [offerSystem_of_room hl]; simp [ReportQueue.systemTotal, hr]
    unfold ReportQueue.WithinShares
    rw [hp, hs]
    exact ⟨h.1, hl⟩
  · rw [offerSystem_of_no_room hl]; exact h.congr rfl

theorem ReportQueue.WithinShares.dequeued {s : State} (h : s.rpq.WithinShares) : s.dequeue.rpq.WithinShares := by
  cases he : s.rpq.entries with
  | nil => rw [dequeue_of_empty he]; exact h
  | cons r rest => exact h.sublist (by rw [dequeue_entries_of he, he]; exact List.sublist_cons_self r rest)

theorem ReportQueue.WithinShares.probeReset {s : State} (h : s.rpq.WithinShares) (p : ProbeId) : (resetProbe p s).rpq.WithinShares := by
  rw [resetProbe_eq]; exact h.sublist List.filter_sublist

theorem ReportQueue.WithinShares.of_boot {q : ReportQueue} {cause : ResetCause} (h : q.entries = [.boot cause]) : q.WithinShares := by
  unfold ReportQueue.WithinShares ReportQueue.probeTotal ReportQueue.systemTotal
  rw [h]; simp [Report.source, Config.systemShare]

theorem ClaimChange.keeps_shares {s t : State} (h : ClaimChange s t) (hs : s.rpq.WithinShares) : t.rpq.WithinShares := by
  cases h with
  | block h => exact hs.congr h.frame.entries
  | dequeued => exact hs.dequeued
  | enqueued p body hr => exact ReportQueue.WithinShares.enqueued (s := s.withGenerated p) hs hr body
  | systemReport r hr => exact hs.offeredSystem hr
  | probeReset p => exact hs.probeReset p
  | record | swapped | installed | lost => exact hs

/-! ### The reply queue and the reply cache -/

theorem HostLink.WithinPlaces.congr {a b : HostLink} (h : a.WithinPlaces) (hr : b.replies = a.replies) (hc : b.cache = a.cache) :
    b.WithinPlaces where
  replies := hr ▸ h.replies
  cache := hc ▸ h.cache
  tagsNonzero := hc ▸ h.tagsNonzero
  tagsNodup := hc ▸ h.tagsNodup

theorem storeReply_tags_nodup {cache : List CacheEntry} (h : (cache.map (·.tag)).Nodup) (e : CacheEntry) :
    ((storeReply cache e).map (·.tag)).Nodup := by
  have hothers : ((cache.filter (fun c : CacheEntry => c.tag != e.tag)).map (·.tag)).Nodup := h.sublist (List.filter_sublist.map _)
  have key {l : List CacheEntry} (hl : l.Sublist (cache.filter (fun c : CacheEntry => c.tag != e.tag))) :
      ((l ++ [e]).map (·.tag)).Nodup := by
    rw [List.map_append, List.map_singleton, ← List.concat_eq_append]
    refine List.Nodup.concat ?_ (hothers.sublist (hl.map _))
    intro hm
    obtain ⟨c, hc, ht⟩ := List.mem_map.1 hm
    simpa [ht] using (List.mem_filter.1 (hl.subset hc)).2
  unfold storeReply; dsimp only
  split
  · exact key (List.Sublist.refl _)
  · exact key (List.drop_sublist 1 _)

/-- A reply enters the queue where it has room, and the cache in its own tag's place or the oldest's (R177, R182). -/
theorem HostLink.WithinPlaces.replied {s : State} (h : s.hli.WithinPlaces) (hl : s.hli.replies.length < 4) (kind tag : Byte) (r : Reply) :
    (s.enterReply kind tag r).hli.WithinPlaces := by
  have hr : (s.enterReply kind tag r).hli.replies.length ≤ Config.replyQueueSize := by
    rw [State.enterReply_replies, List.length_append, List.length_singleton]; exact hl
  have hc : (s.enterReply kind tag r).hli.cache =
      if tag = 0 then s.hli.cache else
        storeReply s.hli.cache { tag := tag, kind := kind, reply := { kind := replyKind kind, tag := tag, reply := r } } := rfl
  by_cases ht : tag = 0
  · rw [if_pos ht] at hc
    exact ⟨hr, hc ▸ h.cache, hc ▸ h.tagsNonzero, hc ▸ h.tagsNodup⟩
  · rw [if_neg ht] at hc
    refine ⟨hr, hc ▸ storeReply_length _ _ h.cache, fun e he => ?_, hc ▸ storeReply_tags_nodup h.tagsNodup _⟩
    rw [hc] at he
    rcases storeReply_mem he with hm | rfl
    · exact h.tagsNonzero e hm
    · exact ht

/-- A replay enters the queue where it has room and leaves the cache (R178). -/
theorem HostLink.WithinPlaces.replayed {s : State} (h : s.hli.WithinPlaces) (hl : s.hli.replies.length < 4) (e : CacheEntry) :
    (replayReply e s).hli.WithinPlaces := by
  refine ⟨?_, h.cache, h.tagsNonzero, h.tagsNodup⟩
  have hr : (replayReply e s).hli.replies = s.hli.replies ++ [e.reply] := rfl
  rw [hr, List.length_append, List.length_singleton]; exact hl

/-- The reply that begins its frame leaves the queue (R183). -/
theorem HostLink.WithinPlaces.transmitted {s : State} (h : s.hli.WithinPlaces) : (transmitReply s).hli.WithinPlaces := by
  unfold transmitReply
  split
  · rename_i m rest _ hr
    refine ⟨?_, h.cache, h.tagsNonzero, h.tagsNodup⟩
    have hq := h.replies
    rw [hr] at hq
    exact Nat.le_of_succ_le hq
  · exact h
  · exact h

theorem HostLink.WithinPlaces.of_empty {h : HostLink} (hr : h.replies = []) (hc : h.cache = []) : h.WithinPlaces where
  replies := by rw [hr]; exact Nat.zero_le _
  cache := by rw [hc]; exact Nat.zero_le _
  tagsNonzero := by rw [hc]; exact fun _ he => absurd he List.not_mem_nil
  tagsNodup := by rw [hc]; exact .nil

/-! ### O53 -/

theorem Change.keeps_storesBounded {s t : State} (h : Change s t) (hs : StoresBounded s) : StoresBounded t := by
  rw [storesBounded_iff] at *
  obtain ⟨hq, hl⟩ := hs
  cases h with
  | claim h => exact ⟨h.keeps_shares hq, hl.congr h.replies.1 h.replies.2⟩
  | link h hr hc => exact ⟨hq, hl.congr hr hc⟩
  | transmitted => exact ⟨by rw [transmitReply_rpq]; exact hq, hl.transmitted⟩
  | replayed e hr => exact ⟨hq, hl.replayed hr e⟩
  | replied kind tag r hr => exact ⟨hq, hl.replied hr kind tag r⟩
  | tick => exact ⟨hq, hl.congr rfl rfl⟩
  | reset rs1 rs0 lrx cause =>
    obtain ⟨hv, -, -⟩ := resetPart_values rs1 rs0 lrx cause s
    exact ⟨.of_boot hv.queue.1, .of_empty hv.replies.1 hv.replies.2⟩

/-- Settles O53: the bounds survive every elementary change, and a step is a sequence of them. -/
theorem storesStayWithinTheirBounds : Obligations.StoresStayWithinTheirBounds :=
  fun _ _ hs e => (step_changes e).keeps (fun _ _ hu h => h.keeps_storesBounded hu) hs

end Sys2Proof.Machine
end

section
/-! SUPPORT. O37 and O38: the offer of a probe report, the dequeue that may come before it, and REPORT_DEQUEUE (R144, R147 to R149, R160
to R162, R183). -/

namespace Sys2Proof.Machine

theorem probeTotal_eq_length_filter (q : ReportQueue) : q.probeTotal = (q.entries.filter (fun r => r.source.isSome)).length :=
  List.countP_eq_length_filter

/-! ### REPORT_DEQUEUE (R160, R162) -/

section
variable {s : State}

/-- The transmitter takes a report when it is free, no reply waits, a credit is left and a report waits (R160, R183). -/
theorem canDequeue_iff : s.canDequeue = true ↔
    s.hli.transmitter = none ∧ s.hli.replies = [] ∧ s.rpq.credits ≠ 0 ∧ s.rpq.entries ≠ [] := by
  simp [State.canDequeue, and_assoc]

theorem canDequeue_eq_false (h : s.hli.transmitter ≠ none ∨ s.hli.replies ≠ [] ∨ s.rpq.credits = 0 ∨ s.rpq.entries = []) :
    s.canDequeue = false := by
  rw [← Bool.not_eq_true, canDequeue_iff]
  tauto

theorem reportDequeue_of_can (h : s.canDequeue = true) : exec .reportDequeue s = .next s.dequeue.resume :=
  congrArg (fun u : State => Host.Outcome.next u.resume) (if_pos h)

theorem reportDequeue_of_not (h : s.canDequeue = false) : exec .reportDequeue s = .next s.resume :=
  congrArg (fun u : State => Host.Outcome.next u.resume) (if_neg (by rw [h]; exact Bool.false_ne_true))

theorem rq_iff : s.rq = true ↔ s.rpq.entries ≠ [] ∧ s.rpq.credits ≠ 0 := by simp [State.rq]

/-! ### The dequeue that may come inside an operation (R149, R183; log 8) -/

theorem raceDequeue_of_even (h : s.canDequeue = true) {n : Nat} {rest : List Nat} (hs : s.schedule = n :: rest) (hn : n % 2 = 0) :
    s.raceDequeue = s.setSchedule rest := by
  rw [State.raceDequeue, if_pos h, choose_of_schedule hs (by decide), hn]; rfl

theorem raceDequeue_of_odd (h : s.canDequeue = true) {n : Nat} {rest : List Nat} (hs : s.schedule = n :: rest) (hn : n % 2 = 1) :
    s.raceDequeue = (s.setSchedule rest).dequeue := by
  rw [State.raceDequeue, if_pos h, choose_of_schedule hs (by decide), hn]; rfl

/-- Where the transmitter can take a report, it can whatever the schedule holds. -/
theorem reportDequeue_setSchedule (h : s.canDequeue = true) (sch : List Nat) :
    exec .reportDequeue (s.setSchedule sch) = .next (s.setSchedule sch).dequeue.resume :=
  reportDequeue_of_can (s := s.setSchedule sch) h

/-! ### The offer of a probe report (R144, R147, R148, R154) -/

variable {p : ProbeId} {pl : Plan}

/-- The room an offer finds is that after the dequeue that may come before it (R149). -/
theorem offered_hasRoom_iff (hp : (s.probe p).plan = some pl) :
    (s.raceDequeue.withGenerated p).hasRoom p = true ↔ s.raceDequeue.rpq.probeTotal < 60 ∧ s.raceDequeue.rpq.waiting p < pl.quota :=
  hasRoom_withGenerated_iff ((s.raceDequeue_probe p).counters.plan.trans hp)

theorem generate_enqueued (hp : (s.probe p).plan = some pl) (ht : s.raceDequeue.rpq.probeTotal < 60)
    (hq : s.raceDequeue.rpq.waiting p < pl.quota) (body : ReportBody) :
    let u := s.raceDequeue
    s.generate p body =
      { state := { u with
          probes := u.probes.set p.val { u.probe p with generated := (u.probe p).generated + 1 }
          rpq := { u.rpq with
            entries := u.rpq.entries ++ [.probe p (u.probe p).generation s.timebase s.rpq.lostBefore[p.val] body]
            lostBefore := s.rpq.lostBefore.set p.val 0 } }
        lost := false } := by
  dsimp only
  rw [generate_of_room ((offered_hasRoom_iff hp).2 ⟨ht, hq⟩), ← s.raceDequeue_keeps.timebase, ← raceDequeue_lostBefore s]
  simp [State.withGenerated, State.enqueueReport, State.setProbe, State.setRpq, State.probe]

theorem generate_lost (hp : (s.probe p).plan = some pl)
    (h : 60 ≤ s.raceDequeue.rpq.probeTotal ∨ pl.quota ≤ s.raceDequeue.rpq.waiting p) (body : ReportBody) :
    let u := s.raceDequeue
    s.generate p body =
      { state := { u with
          probes := u.probes.set p.val
            { u.probe p with generated := (u.probe p).generated + 1, lost := (u.probe p).lost + 1 }
          rpq := { u.rpq with
            lostBefore := s.rpq.lostBefore.set p.val (BitVec.ofNat 16 (min (s.rpq.lostBefore[p.val].toNat + 1) 65535)) } }
        lost := true } := by
  have hn : ¬ (s.raceDequeue.withGenerated p).hasRoom p = true := by rw [offered_hasRoom_iff hp]; omega
  dsimp only
  rw [generate_of_no_room hn, ← raceDequeue_lostBefore s]
  simp [State.withGenerated, State.loseReport, State.setProbe, State.setRpq, State.probe, satInc_eq_ofNat]

end

/-- Settles O37: the room of the queue behind the possible dequeue decides the offer, and the schedule that dequeue. -/
theorem probeReportsAreEnqueuedOrLost : Obligations.ProbeReportsAreEnqueuedOrLost := by
  refine ⟨fun s p pl body hp => ?_, fun s => canDequeue_iff, fun s h => ?_, fun s n rest hc hs => ⟨raceDequeue_of_even hc hs, ?_⟩⟩
  · dsimp only
    rw [← probeTotal_eq_length_filter, ← waiting_eq_length_filter]
    exact ⟨fun ht hq => generate_enqueued hp ht hq body, fun h => generate_lost hp h body⟩
  · rcases h with h | h
    · exact s.raceDequeue_of_not h
    · exact raceDequeue_of_noDequeue (.inr h)
  · intro hn
    rw [raceDequeue_of_odd hc hs hn]
    exact ⟨rfl, reportDequeue_setSchedule hc rest⟩

/-- Settles O38: the command dequeues exactly where the transmitter can take a report, and a dequeue inside another operation is that
command's. -/
theorem reportsLeaveOldestFirstOnCredit : Obligations.ReportsLeaveOldestFirstOnCredit := by
  refine ⟨fun s r rest ht hr hc he => ?_, fun s h => ?_, fun s => rq_iff, fun s => ?_⟩
  · have hcan : s.canDequeue = true := canDequeue_iff.2 ⟨ht, hr, hc, by rw [he]; exact List.cons_ne_nil r rest⟩
    rw [reportDequeue_of_can hcan, dequeue_of_cons he]
    cases r <;> rfl
  · exact ⟨reportDequeue_of_not (canDequeue_eq_false h), s.raceDequeue_of_not (canDequeue_eq_false h)⟩
  · rcases s.raceDequeue_cases with ⟨sch, e⟩ | ⟨hc, sch, e⟩
    · exact ⟨sch, .inl e⟩
    · exact ⟨sch, .inr (by rw [e]; exact reportDequeue_setSchedule hc sch)⟩

end Sys2Proof.Machine
end

section
/-! SUPPORT. O39: CREDIT, STATUS with clear, and DEVICE_RESET (R158, R185 to R187). -/

namespace Sys2Proof.Machine

/-- A mode or a clear above 1 is neither of the two defined (R158, R185). -/
theorem undefined_of_above_one {b : Byte} (h : 1 < b.toNat) : b ≠ 0 ∧ b ≠ 1 :=
  ⟨by rintro rfl; exact absurd h (by decide), by rintro rfl; exact absurd h (by decide)⟩

/-! ### CREDIT (R158) -/

section
variable {mode n : Byte} {s : State}

theorem credit_of_badMode (h : 1 < mode.toNat) : credit mode n s = deny (.badValue 1) s := by
  obtain ⟨h0, h1⟩ := undefined_of_above_one h
  rw [credit, if_neg h0, if_neg h1]

theorem credit_add_zero : credit 0 0 s = deny (.badValue 2) s := by rw [credit, if_pos rfl, if_pos rfl]

theorem credit_add (h : n ≠ 0) : credit 0 n s = creditsSet (BitVec.ofNat 8 (min (s.rpq.credits.toNat + n.toNat) 255)) s := by
  rw [credit, if_pos rfl, if_neg h]; rfl

theorem credit_set : credit 1 n s = creditsSet n s := by rw [credit, if_neg (by decide), if_pos rfl]

end

/-- An accepted CREDIT that sets the credits answers them and the totals of the queue (R158). -/
theorem exec_credit_of_set {s : State} {tag mode n c : Byte} (h : Accepts s 0x03 tag)
    (he : credit mode n s.counted = creditsSet c s.counted) : exec (.credit tag mode n) s =
      .next ({ s.counted with rpq := { s.rpq with credits := c } }.replied 0x03 tag
        (.credit c (s.rpq.entries.filter (fun r : Report => r.source.isSome)).length
          (s.rpq.entries.filter (fun r : Report => r.source.isNone)).length)) := by
  rw [← probeTotal_eq_length_filter, ← systemTotal_eq_length_filter]
  exact hostRequest_answered (r := .credit mode n) h he rfl nofun

theorem exec_credit_of_refused {s : State} {tag mode n : Byte} {d : Denial} (h : Accepts s 0x03 tag)
    (he : credit mode n s.counted = deny d s.counted) :
    exec (.credit tag mode n) s = .next (s.counted.replied 0x03 tag (.denied d)) :=
  hostRequest_denied (r := .credit mode n) h he rfl nofun

/-! ### STATUS with clear (R185, R186) -/

theorem status_clearing (s : State) : status 1 s = answer (.status s.statusView) s.clearCounters := by
  rw [status, if_neg (by decide), if_pos rfl]

/-- The count of the frame that carries the request is cleared with the rest (R174, R186). -/
theorem counted_clearCounters (s : State) : s.counted.clearCounters = s.clearCounters := rfl

theorem clearCounters_eq (s : State) : s.clearCounters =
    { s with
      hli := { s.hli with counters := LinkCounters.mk 0 0 0 0 0 0 0 }
      rpq := { s.rpq with systemLost := 0 }
      cpl := { s.cpl with cascadeCut := 0 } } := rfl

theorem status_of_badClear {clear : Byte} (h : 1 < clear.toNat) (s : State) : status clear s = deny (.badValue 1) s := by
  obtain ⟨h0, h1⟩ := undefined_of_above_one h
  rw [status, if_neg h0, if_neg h1]

/-- Settles O39: each row is an answer or a refusal of the request's own execution. -/
theorem linkRequestsSetCreditsAndClear : Obligations.LinkRequestsSetCreditsAndClear := by
  refine ⟨fun tag mode n s h => ⟨fun hm => ?_, ?_, ?_, ?_⟩, fun tag clear s h => ⟨fun hc => ?_, ?_⟩, fun tag s h => ?_⟩
  · exact exec_credit_of_refused h (credit_of_badMode hm)
  · rintro rfl rfl; exact exec_credit_of_refused h credit_add_zero
  · rintro rfl hn; exact exec_credit_of_set h (credit_add hn)
  · rintro rfl; exact exec_credit_of_set h credit_set
  · exact hostRequest_denied (r := .status clear) h (status_of_badClear hc _) rfl nofun
  · rintro rfl
    rw [← clearCounters_eq, ← counted_clearCounters]
    exact hostRequest_answered (r := .status 1) h (status_clearing _) rfl nofun
  · exact hostRequest_answered (r := .deviceReset) h rfl rfl nofun

end Sys2Proof.Machine
end

section
/-! SUPPORT. O44 and O45: the KIND and DATA of a request decode to that request, and a request command is its frame (R179, R191 to
R194; log 5). -/

namespace Sys2Proof

/-! ### Little-endian bytes (R191) -/

@[simp] theorem leBytes_length (n v : Nat) : (leBytes n v).length = n := by
  induction n generalizing v with
  | zero => rfl
  | succ n ih => rw [leBytes, List.length_cons, ih]

theorem leNat_leBytes (n v : Nat) : leNat (leBytes n v) = v % 256 ^ n := by
  induction n generalizing v with
  | zero => rw [pow_zero, Nat.mod_one]; rfl
  | succ n ih =>
    have hb : (BitVec.ofNat 8 (v % 256)).toNat = v % 256 := by rw [BitVec.toNat_ofNat]; omega
    rw [leBytes, leNat, ih, hb, pow_succ', Nat.mod_mul]

/-- A word is read back from `n` bytes that can hold it. -/
theorem ofNat_leNat_leBytes {w : Nat} (n : Nat) (x : BitVec w) (h : w ≤ 8 * n) : BitVec.ofNat w (leNat (leBytes n x.toNat)) = x := by
  have hx : x.toNat < 256 ^ n := x.isLt.trans_le (by rw [show 256 = 2 ^ 8 from rfl, ← pow_mul]; exact Nat.pow_le_pow_right two_pos h)
  rw [leNat_leBytes, Nat.mod_eq_of_lt hx, BitVec.ofNat_toNat, BitVec.setWidth_eq]

/-! ### Plan records and edge chunks (R194) -/

theorem PlanRecord.bytes_length (r : PlanRecord) : r.bytes.length = 24 := by simp [PlanRecord.bytes]

/-- Each field of a record stands at its offset: the bytes of a number of several bytes are read back whole. -/
theorem PlanRecord.ofBytes_bytes (r : PlanRecord) : PlanRecord.ofBytes r.bytes = r := by
  calc PlanRecord.ofBytes r.bytes
      = { r with
          window := BitVec.ofNat 32 (leNat (leBytes 4 r.window.toNat)), span := BitVec.ofNat 16 (leNat (leBytes 2 r.span.toNat))
          maxWindows := BitVec.ofNat 24 (leNat (leBytes 3 r.maxWindows.toNat))
          tol := BitVec.ofNat 32 (leNat (leBytes 4 r.tol.toNat)) } := rfl
    _ = r := by
      rw [ofNat_leNat_leBytes 4 r.window le_rfl, ofNat_leNat_leBytes 2 r.span le_rfl, ofNat_leNat_leBytes 3 r.maxWindows le_rfl,
        ofNat_leNat_leBytes 4 r.tol le_rfl]

@[simp] theorem edgeBytes_length (es : List Sample32) : (edgeBytes es).length = 4 * es.length := by
  induction es with
  | nil => rfl
  | cons e es ih => rw [edgeBytes, List.length_append, leBytes_length, ih, List.length_cons, Nat.mul_succ, Nat.add_comm]

@[simp] theorem edgesOfBytes_length (n : Nat) (d : List Byte) : (edgesOfBytes n d).length = n := by
  induction n generalizing d with
  | zero => rfl
  | succ n ih => rw [edgesOfBytes, List.length_cons, ih]

theorem edgesOfBytes_edgeBytes (es : List Sample32) : edgesOfBytes es.length (edgeBytes es) = es := by
  induction es with
  | nil => rfl
  | cons e es ih =>
    have hl : (leBytes 4 e.toNat).length = 4 := leBytes_length _ _
    rw [List.length_cons, edgesOfBytes, edgeBytes, List.take_left' hl, List.drop_left' hl, ofNat_leNat_leBytes 4 e le_rfl, ih]

/-! ### Requests (R179, R192, R193) -/

/-- The codes of R192 are distinct. -/
theorem RequestKind.ofCode_code (k : RequestKind) : RequestKind.ofCode k.code = some k := by cases k <;> rfl

theorem decodeRequest_code (k : RequestKind) (d : List Byte) : decodeRequest k.code d = k.parse d := by
  rw [decodeRequest, RequestKind.ofCode_code]

theorem ofLength_of_eq {d : List Byte} {n : Nat} (r : Request) (h : d.length = n) : ofLength d n r = .ok r := if_pos h

/-- Where DATA of a chunk has room for `n` edges, 1 to 8 of them are read and any other number is refused (R193). -/
theorem parse_stageEdges {d : List Byte} {n : Nat} (h : d.length = 2 + 4 * n) : RequestKind.parse .stageEdges d =
    if 1 ≤ n ∧ n ≤ 8 then .ok (.stageEdges (byteField d 0) (byteField d 1) (edgesOfBytes n (d.drop 2))) else .error .badLength := by
  have hn : (d.length - 2) / 4 = n := by omega
  have hc : (6 ≤ d.length ∧ d.length ≤ 34 ∧ (d.length - 2) % 4 = 0) ↔ (1 ≤ n ∧ n ≤ 8) := by omega
  rw [RequestKind.parse, hn]
  exact if_congr hc rfl rfl

theorem stageEdges_data_length (b chunk : Byte) (edges : List Sample32) :
    (Request.stageEdges b chunk edges).data.length = 2 + 4 * edges.length := by
  simp only [Request.data, List.length_cons, edgeBytes_length]; omega

/-- Decoding what the layouts give a request checks its length and nothing more. -/
theorem decodeRequest_encoded (r : Request) : decodeRequest r.kind.code r.data = r.checkLength := by
  rw [decodeRequest_code]
  cases r with
  | stageEdges b chunk edges =>
    have hb : ((Request.stageEdges b chunk edges).data.drop 2) = edgeBytes edges := rfl
    rw [Request.kind, parse_stageEdges (stageEdges_data_length b chunk edges), hb, edgesOfBytes_edgeBytes]
    simp only [Request.checkLength, Request.lengthAllowed, decide_eq_true_eq]
    rfl
  | profileSet b x =>
    exact congrArg (fun y => Except.ok (Request.profileSet b y)) (ofNat_leNat_leBytes 2 x le_rfl)
  | stageBegin b x =>
    exact congrArg (fun y => Except.ok (Request.stageBegin b y)) (ofNat_leNat_leBytes 4 x le_rfl)
  | startAt b x =>
    exact congrArg (fun y => Except.ok (Request.startAt b y)) (ofNat_leNat_leBytes 6 x le_rfl)
  | stageParams b x =>
    have hl : (Request.stageParams b x).data.length = 25 := congrArg (· + 1) x.bytes_length
    exact (ofLength_of_eq _ hl).trans (congrArg (fun y => Except.ok (Request.stageParams b y)) x.ofBytes_bytes)
  | status | deviceReset | credit | time | lineSet | lineRead | stageCommit | stageAbort | start | arm | stop | probeReset | probeRead
  | snapshot | histRead | histClear | coupleAdd | coupleRemove | coupleList => rfl

end Sys2Proof

namespace Sys2Proof.Machine

/-- Settles O44: by `decodeRequest_encoded` only the length is left to check. -/
theorem decodingAnEncodedRequestGivesItBack : Obligations.DecodingAnEncodedRequestGivesItBack := by
  refine ⟨fun r h => ?_, fun r h => ?_⟩
  · rw [decodeRequest_encoded, Request.checkLength, h]; rfl
  · rw [decodeRequest_encoded, Request.checkLength, h]; rfl

theorem exec_requestCommand (tag : Byte) (r : Request) (s : State) : exec (requestCommand tag r) s = (hostRequest tag r s).done := by
  cases r <;> rfl

/-- Settles O45: a request command hands acceptance what its frame decodes to. -/
theorem requestCommandsAreTheirFrames : Obligations.RequestCommandsAreTheirFrames := by
  intro r tag s
  rw [exec_requestCommand, hostRequest, ← decodeRequest_encoded]; rfl

end Sys2Proof.Machine
end

section
/-! SUPPORT. O52: an execution whose reply is a refusal has done nothing else (R181). -/

namespace Sys2Proof.Machine

/-- An answer to a request taken in `s`: if it refuses, it is the bare refusal. -/
def RefusesBare (s : State) (a : Answer) : Prop := ∀ d, a.reply = .denied d → a = deny d s

section
variable {s : State}

theorem refusesBare_deny (d : Denial) : RefusesBare s (deny d s) := by
  rintro _ ⟨⟩; rfl

/-- An answer that carries data of its kind is no refusal. -/
theorem refusesBare_of_ok {a : Answer} (h : ∀ d, a.reply ≠ .denied d) : RefusesBare s a := fun d hd => absurd hd (h d)

theorem refusesBare_withProbe {f : ProbeId → Answer} (h : ∀ p, RefusesBare s (f p)) (b : Byte) : RefusesBare s (withProbe b s f) := by
  unfold withProbe
  split
  · exact refusesBare_deny _
  · exact h _

theorem refusesBare_asOwner {f : Stage → Answer} (h : ∀ stage, RefusesBare s (f stage)) (p : ProbeId) :
    RefusesBare s (asOwner p s f) := by
  unfold asOwner
  split
  · exact refusesBare_deny _
  · split
    · exact h _
    · exact refusesBare_deny _

/-! ### The link's and the lines' requests -/

theorem status_refusesBare (clear : Byte) : RefusesBare s (status clear s) := by
  unfold status
  split
  · exact refusesBare_of_ok nofun
  · split
    · exact refusesBare_of_ok nofun
    · exact refusesBare_deny _

theorem credit_refusesBare (mode n : Byte) : RefusesBare s (credit mode n s) := by
  unfold credit
  split
  · split
    · exact refusesBare_deny _
    · exact refusesBare_of_ok nofun
  · split
    · exact refusesBare_of_ok nofun
    · exact refusesBare_deny _

theorem lineSet_refusesBare (line profile : Byte) : RefusesBare s (lineSet line profile s) := by
  unfold lineSet
  split
  · exact refusesBare_deny _
  · split
    · exact refusesBare_deny _
    · exact refusesBare_of_ok nofun

theorem profileSet_refusesBare (profile : Byte) (threshold : BitVec 16) : RefusesBare s (profileSet profile threshold s) := by
  unfold profileSet
  split
  · exact refusesBare_deny _
  · split
    · exact refusesBare_of_ok nofun
    · exact refusesBare_deny _

/-! ### The Plan Loader's requests -/

variable (p : ProbeId)

theorem stageBegin_refusesBare (lease : BitVec 32) : RefusesBare s (stageBegin p lease s) := by
  unfold stageBegin
  split
  · exact refusesBare_deny _
  · split
    · exact refusesBare_of_ok nofun
    · split
      · split
        · exact refusesBare_deny _
        · exact refusesBare_of_ok nofun
      · exact refusesBare_deny _

theorem stageParams_refusesBare (record : PlanRecord) : RefusesBare s (stageParams p record s) := by
  refine refusesBare_asOwner (fun stage => ?_) p
  split
  · exact refusesBare_deny _
  · split
    · exact refusesBare_deny _
    · exact refusesBare_of_ok nofun

theorem stageEdges_refusesBare (chunk : Byte) (edges : List Sample32) : RefusesBare s (stageEdges p chunk edges s) := by
  refine refusesBare_asOwner (fun stage => ?_) p
  cases stage with
  | opened | complete | pending => exact refusesBare_deny _
  | edges lease deadline pl received k =>
    dsimp only
    split
    · exact refusesBare_deny _
    · split
      · exact refusesBare_deny _
      · split
        · exact refusesBare_deny _
        · exact refusesBare_of_ok nofun

theorem commitComplete_refusesBare (mode : Byte) (pl : Plan) (edges : List Sample32) :
    RefusesBare s (commitComplete p mode pl edges s) := by
  unfold commitComplete
  dsimp only
  split
  · exact refusesBare_deny _
  · split
    · exact refusesBare_of_ok nofun
    · exact refusesBare_of_ok nofun
    · exact refusesBare_of_ok nofun
    · exact refusesBare_deny _
    · split
      · exact refusesBare_deny _
      · split
        · exact refusesBare_deny _
        · exact refusesBare_of_ok nofun

theorem stageCommit_refusesBare (mode : Byte) : RefusesBare s (stageCommit p mode s) := by
  refine refusesBare_asOwner (fun stage => ?_) p
  cases stage with
  | complete lease deadline pl edges => exact commitComplete_refusesBare p mode pl edges
  | opened | edges | pending => exact refusesBare_deny _

theorem stageAbort_refusesBare : RefusesBare s (stageAbort p s) := by
  refine refusesBare_asOwner (fun stage => ?_) p
  exact refusesBare_of_ok nofun

/-! ### The probes' requests, and their histograms' -/

theorem start_refusesBare : RefusesBare s (start p s) := by
  unfold start
  split
  · exact refusesBare_of_ok nofun
  · exact refusesBare_of_ok nofun
  · exact refusesBare_of_ok nofun
  · exact refusesBare_deny _
  · exact refusesBare_deny _

theorem startAt_refusesBare (t : Tick) : RefusesBare s (startAt p t s) := by
  unfold startAt
  dsimp only
  split
  · exact refusesBare_deny _
  · exact refusesBare_deny _
  all_goals split <;> exact refusesBare_of_ok nofun

theorem arm_refusesBare : RefusesBare s (arm p s) := by
  unfold arm
  dsimp only
  split
  · exact refusesBare_of_ok nofun
  · exact refusesBare_of_ok nofun
  all_goals exact refusesBare_deny _

theorem stop_refusesBare : RefusesBare s (stop p s) := by
  unfold stop
  dsimp only
  split
  · exact refusesBare_of_ok nofun
  · exact refusesBare_of_ok nofun
  all_goals exact refusesBare_deny _

theorem probeReset_refusesBare : RefusesBare s (probeReset p s) := refusesBare_of_ok nofun

theorem probeRead_refusesBare : RefusesBare s (probeRead p s) := refusesBare_of_ok nofun

/-- SNAPSHOT refuses before it takes in a first tick (R52). -/
theorem snapshot_refusesBare : RefusesBare s (snapshot p s) := by
  unfold snapshot
  dsimp only
  split
  · exact refusesBare_of_ok nofun
  · exact refusesBare_deny _

theorem histRead_refusesBare (half : Byte) : RefusesBare s (histRead p half s) := by
  unfold histRead
  dsimp only
  split
  · exact refusesBare_deny _
  · split
    · exact refusesBare_deny _
    · split
      · exact refusesBare_deny _
      · exact refusesBare_of_ok nofun

theorem histClear_refusesBare : RefusesBare s (histClear p s) := by
  unfold histClear
  dsimp only
  split
  · exact refusesBare_deny _
  · split
    · exact refusesBare_deny _
    · exact refusesBare_of_ok nofun

/-! ### The Coupling Table's requests, and every request -/

theorem coupleAdd_refusesBare (source target : ProbeId) (event action : Byte) :
    RefusesBare s (coupleAdd source event target action s) := by
  unfold coupleAdd
  split
  · exact refusesBare_deny _
  · split
    · exact refusesBare_deny _
    · split
      · exact refusesBare_deny _
      · split
        · exact refusesBare_deny _
        · split
          · exact refusesBare_deny _
          · exact refusesBare_of_ok nofun

theorem coupleRemove_refusesBare (slot : Byte) : RefusesBare s (coupleRemove slot s) := by
  unfold coupleRemove
  split
  · exact refusesBare_deny _
  · split
    · exact refusesBare_deny _
    · exact refusesBare_of_ok nofun

end

theorem execute_refusesBare (r : Request) (s : State) : RefusesBare s (execute r s) := by
  cases r with
  | status clear => exact status_refusesBare clear
  | credit mode n => exact credit_refusesBare mode n
  | lineSet line profile => exact lineSet_refusesBare line profile
  | profileSet profile threshold => exact profileSet_refusesBare profile threshold
  | deviceReset | time | lineRead | coupleList => exact refusesBare_of_ok nofun
  | stageBegin b lease => exact refusesBare_withProbe (fun p => stageBegin_refusesBare p lease) b
  | stageParams b record => exact refusesBare_withProbe (fun p => stageParams_refusesBare p record) b
  | stageEdges b chunk edges => exact refusesBare_withProbe (fun p => stageEdges_refusesBare p chunk edges) b
  | stageCommit b mode => exact refusesBare_withProbe (fun p => stageCommit_refusesBare p mode) b
  | stageAbort b => exact refusesBare_withProbe stageAbort_refusesBare b
  | start b => exact refusesBare_withProbe start_refusesBare b
  | startAt b t => exact refusesBare_withProbe (fun p => startAt_refusesBare p t) b
  | arm b => exact refusesBare_withProbe arm_refusesBare b
  | stop b => exact refusesBare_withProbe stop_refusesBare b
  | probeReset b => exact refusesBare_withProbe probeReset_refusesBare b
  | probeRead b => exact refusesBare_withProbe probeRead_refusesBare b
  | snapshot b => exact refusesBare_withProbe snapshot_refusesBare b
  | histRead b half => exact refusesBare_withProbe (fun p => histRead_refusesBare p half) b
  | histClear b => exact refusesBare_withProbe histClear_refusesBare b
  | coupleAdd a event b action =>
    exact refusesBare_withProbe (fun p => refusesBare_withProbe (fun q => coupleAdd_refusesBare p q event action) b) a
  | coupleRemove slot => exact coupleRemove_refusesBare slot

/-- Settles O52: a refusing answer is the bare refusal, which leaves the state and raises nothing. -/
theorem refusedRequestsChangeNothing : Obligations.RefusedRequestsChangeNothing := by
  intro r s d h
  rw [execute_refusesBare r s d h]
  exact ⟨rfl, rfl⟩

end Sys2Proof.Machine
end

section
/-! SUPPORT. O47: the three checks of dispatch in order: the kind, the length of DATA, and the probe fields (R179, R193). -/

namespace Sys2Proof.Machine

/-! ### The lengths and the probe fields of R193 -/

/-- The lengths that DATA of a kind may have (R193). -/
def dataLengths : RequestKind → List Nat
  | .deviceReset | .time | .lineRead | .coupleList => [0]
  | .status | .stageAbort | .arm | .stop | .probeReset | .probeRead | .snapshot | .histClear | .coupleRemove => [1]
  | .credit | .lineSet | .stageCommit | .histRead => [2]
  | .profileSet => [3]
  | .coupleAdd => [4]
  | .stageBegin => [5]
  | .stageParams => [25]
  | .start => [1, 7]
  | .stageEdges => [6, 10, 14, 18, 22, 26, 30, 34]

/-- The offsets in DATA of a kind's probe fields (R193). -/
def probeFields : RequestKind → List Nat
  | .status | .deviceReset | .credit | .time | .lineSet | .lineRead | .profileSet | .coupleRemove | .coupleList => []
  | .stageBegin | .stageParams | .stageEdges | .stageCommit | .stageAbort | .start | .arm | .stop | .probeReset | .probeRead | .snapshot
  | .histRead | .histClear => [0]
  | .coupleAdd => [0, 2]

/-- A request read from DATA of a kind: one of that kind, of a length its kind allows, with DATA's own length and probe fields. -/
structure ParsedAs (k : RequestKind) (d : List Byte) (r : Request) : Prop where
  kind : r.kind = k
  allowed : r.lengthAllowed = true
  length : r.data.length = d.length
  probes : ∀ i ∈ probeFields k, byteField r.data i = byteField d i

/-! ### Checks 1 and 2 (R179) -/

theorem ofLength_cases {k : RequestKind} {n : Nat} {d : List Byte} {r : Request} (h : d.length = n → ParsedAs k d r) :
    (d.length = n ∧ ∃ r', ofLength d n r = .ok r' ∧ ParsedAs k d r') ∨ (d.length ≠ n ∧ ofLength d n r = .error .badLength) := by
  by_cases hd : d.length = n
  · exact .inl ⟨hd, r, if_pos hd, h hd⟩
  · exact .inr ⟨hd, if_neg hd⟩

/-- Check 2 of R179: the length of DATA alone decides whether a frame of a known kind is a request. -/
theorem parse_cases (k : RequestKind) (d : List Byte) :
    (d.length ∈ dataLengths k ∧ ∃ r, k.parse d = .ok r ∧ ParsedAs k d r) ∨
    (d.length ∉ dataLengths k ∧ k.parse d = .error .badLength) := by
  cases k with
  | stageEdges =>
    by_cases hd : d.length ∈ dataLengths .stageEdges
    · obtain ⟨n, hn, hl⟩ : ∃ n, (1 ≤ n ∧ n ≤ 8) ∧ d.length = 2 + 4 * n := by
        simp only [dataLengths, List.mem_cons, List.not_mem_nil, or_false] at hd
        exact ⟨(d.length - 2) / 4, by omega, by omega⟩
      refine .inl ⟨hd, _, (parse_stageEdges hl).trans (if_pos hn), rfl, ?_, ?_, ?_⟩
      · rw [stageEdges_lengthAllowed_iff, edgesOfBytes_length]; exact hn
      · rw [stageEdges_data_length, edgesOfBytes_length, hl]
      · rintro i hi
        obtain rfl := List.mem_singleton.1 hi
        rfl
    · refine .inr ⟨hd, if_neg fun hc => hd ?_⟩
      simp only [dataLengths, List.mem_cons, List.not_mem_nil, or_false]
      omega
  | start =>
    by_cases h1 : d.length = 1
    · refine .inl ⟨by simp [dataLengths, h1], .start (byteField d 0), by simp [RequestKind.parse, h1], rfl, rfl, h1.symm, ?_⟩
      simp [probeFields, Request.data, byteField]
    · have h := ofLength_cases (k := .start) (n := 7) (d := d) (r := .startAt (byteField d 0) (BitVec.ofNat 48 (leField d 1 6)))
        fun h7 => ⟨rfl, rfl, by rw [h7]; simp [Request.data], by simp [probeFields, Request.data, byteField]⟩
      simpa [RequestKind.parse, dataLengths, h1] using h
  | stageParams =>
    simp only [dataLengths, List.mem_singleton]
    refine ofLength_cases fun h => ⟨rfl, rfl, ?_, ?_⟩
    · rw [h, Request.data, List.length_cons, PlanRecord.bytes_length]
    · simp [probeFields, Request.data, byteField]
  | status | deviceReset | credit | time | lineSet | lineRead | profileSet | stageBegin | stageCommit | stageAbort | arm | stop
  | probeReset | probeRead | snapshot | histRead | histClear | coupleAdd | coupleRemove | coupleList =>
    simp only [dataLengths, List.mem_singleton]
    refine ofLength_cases fun h => ⟨rfl, rfl, ?_, ?_⟩
    · rw [h]; simp [Request.data]
    · simp [probeFields, Request.data, byteField]

/-- Check 1 of R179: a KIND that is no kind's code is refused. -/
theorem decodeRequest_of_unknown {kind : Byte} (h : ∀ k : RequestKind, k.code ≠ kind) (d : List Byte) :
    decodeRequest kind d = .error .badKind := by
  have hn : RequestKind.ofCode kind = none := List.find?_eq_none.2 fun k _ => by simpa using h k
  rw [decodeRequest, hn]

/-! ### Check 3 (R179) -/

/-- A request with a probe field above 15 is refused by check 3, whatever else it carries. -/
theorem execute_of_bad_probe {r : Request} {i : Nat} (hi : i ∈ probeFields r.kind) (hb : 15 < (byteField r.data i).toNat) (s : State) :
    execute r s = deny .badProbe s := by
  cases r with
  | coupleAdd a event b action =>
    by_cases ha : 15 < a.toNat
    · exact withProbe_of_large ha _ _
    · have h2 : 15 < b.toNat := by
        simp only [Request.kind, probeFields, List.mem_cons, List.not_mem_nil, or_false] at hi
        rcases hi with rfl | rfl
        · exact absurd hb ha
        · exact hb
      exact (withProbe_of_val (p := ⟨a.toNat, by omega⟩) rfl _ _).trans (withProbe_of_large h2 _ _)
  | status | deviceReset | credit | time | lineSet | lineRead | profileSet | coupleRemove | coupleList => cases hi
  | stageBegin b | stageParams b | stageEdges b | stageCommit b | stageAbort b | start b | startAt b | arm b | stop b | probeReset b
  | probeRead b | snapshot b | histRead b | histClear b =>
    obtain rfl := List.mem_singleton.1 hi
    exact withProbe_of_large hb _ _

/-! ### O47 -/

/-- An accepted frame that dispatch refuses leaves the counted frame and its denial (R179, R181). -/
theorem frameAccept_denied {s : State} {kind tag : Byte} {data : List Byte} {d : Denial} (h : Accepts s kind tag)
    (hd : dispatch (decodeRequest kind data) s.counted = deny d s.counted)
    (ha : ofTable (decodeRequest kind data) = true → s.actions = []) :
    exec (.frameAccept kind tag data) s = .next (s.counted.replied kind tag (.denied d)) := by
  have hw : readyFor (decodeRequest kind data) s.counted = s.counted := readyFor_of_whole h.whole ha
  have hg : exec (.frameAccept kind tag data) s = (goodFrame kind tag (decodeRequest kind data) s).done := rfl
  rw [hg, goodFrame_of_admitted h.toAdmitted, hw, hd]
  exact congrArg Host.Outcome.next (repliedRaising_nil _ _ _ _)

/-- The requests of the table are those of three kinds. -/
theorem ofTable_ok {r : Request} (h : ofTable (.ok r) = true) :
    r.kind = .coupleAdd ∨ r.kind = .coupleRemove ∨ r.kind = .coupleList := by
  cases r with
  | coupleAdd => exact .inl rfl
  | coupleRemove => exact .inr (.inl rfl)
  | coupleList => exact .inr (.inr rfl)
  | status | deviceReset | credit | time | lineSet | lineRead | profileSet | stageBegin | stageParams | stageEdges | stageCommit
  | stageAbort | start | startAt | arm | stop | probeReset | probeRead | snapshot | histRead | histClear =>
    exact absurd h Bool.false_ne_true

/-- A frame of a known kind and an allowed length, one of whose probe fields is above 15 (R179). -/
theorem frameAccept_of_bad_probe {s : State} {k : RequestKind} {tag : Byte} {data : List Byte} {i : Nat} (h : Accepts s k.code tag)
    (hl : data.length ∈ dataLengths k) (hi : i ∈ probeFields k) (hb : 15 < (byteField data i).toNat)
    (ha : k = .coupleAdd → s.actions = []) :
    exec (.frameAccept k.code tag data) s = .next (s.counted.replied k.code tag (.denied .badProbe)) := by
  rcases parse_cases k data with ⟨-, r, hr, hp⟩ | ⟨hn, -⟩
  · have hd : decodeRequest k.code data = .ok r := (decodeRequest_code k data).trans hr
    refine frameAccept_denied h ?_ fun ht => ?_
    · rw [hd]
      exact execute_of_bad_probe (i := i) (hp.kind ▸ hi) (hp.probes i hi ▸ hb) _
    · rw [hd] at ht
      rcases ofTable_ok ht with e | e | e
      · exact ha (hp.kind.symm.trans e)
      · rw [← hp.kind, e] at hi; cases hi
      · rw [← hp.kind, e] at hi; cases hi
  · exact absurd hl hn

/-- Settles O47: `parse_cases` gives the lengths, `execute_of_bad_probe` the probe fields. -/
theorem dispatchChecksKindLengthAndProbe : Obligations.DispatchChecksKindLengthAndProbe := by
  intro kind tag data s h refused oneByte
  have badProbe (k : RequestKind) (hk : k.code = kind) {i : Nat} (hl : data.length ∈ dataLengths k) (hi : i ∈ probeFields k)
      (hb : 15 < (byteField data i).toNat) (ha : k = .coupleAdd → s.actions = []) : refused .badProbe := by
    subst hk
    exact frameAccept_of_bad_probe h hl hi hb ha
  refine ⟨fun hk => ?_, fun k hk hl => ?_, fun hb hc => ?_, fun hk hl ha hb => ?_⟩
  · have hd := decodeRequest_of_unknown hk data
    exact frameAccept_denied h (by rw [hd]; rfl) (by rw [hd]; nofun)
  · subst hk
    rcases parse_cases k data with ⟨-, r, -, hp⟩ | ⟨-, hr⟩
    · exact absurd hp.length (hl r hp.kind hp.allowed)
    · have hd : decodeRequest k.code data = .error .badLength := (decodeRequest_code k data).trans hr
      exact frameAccept_denied h (by rw [hd]; rfl) (by rw [hd]; nofun)
  · rcases hc with ⟨hk, hl⟩ | ⟨hk, hl⟩ | ⟨hk, hl⟩ | ⟨hk, hl⟩ | ⟨hk, hl⟩ | ⟨hk, hl⟩ | ⟨hk, hl⟩ | ⟨hk, hl, ha⟩
    · simp only [oneByte, List.mem_cons, List.not_mem_nil, or_false] at hk
      have one (k : RequestKind) (e : kind = k.code) (hd : dataLengths k = [1]) (hp : probeFields k = [0]) : refused .badProbe :=
        badProbe k e.symm (i := 0) (by rw [hd, hl]; exact .head _) (by rw [hp]; exact .head _) hb
          (by rintro rfl; cases hd)
      rcases hk with hk | hk | hk | hk | hk | hk | hk
      · exact one .stageAbort hk rfl rfl
      · exact one .arm hk rfl rfl
      · exact one .stop hk rfl rfl
      · exact one .probeReset hk rfl rfl
      · exact one .probeRead hk rfl rfl
      · exact one .snapshot hk rfl rfl
      · exact one .histClear hk rfl rfl
    · exact badProbe .start hk.symm (by simp [dataLengths, hl]) (.head _) hb nofun
    · exact badProbe .stageBegin hk.symm (by simp [dataLengths, hl]) (.head _) hb nofun
    · exact badProbe .stageParams hk.symm (by simp [dataLengths, hl]) (.head _) hb nofun
    · exact badProbe .stageEdges hk.symm hl (.head _) hb nofun
    · exact badProbe .stageCommit hk.symm (by simp [dataLengths, hl]) (.head _) hb nofun
    · exact badProbe .histRead hk.symm (by simp [dataLengths, hl]) (.head _) hb nofun
    · exact badProbe .coupleAdd hk.symm (by simp [dataLengths, hl]) (.head _) hb fun _ => ha
  · exact badProbe .coupleAdd hk.symm (by simp [dataLengths, hl]) (.tail _ (.head _)) hb fun _ => ha

end Sys2Proof.Machine
end

section
/-! SUPPORT. O40, O41 and O42: the frame check, the rows of the frame receiver, and a frame delivered byte by byte (R169 to R172, R175). -/

namespace Sys2Proof.Machine

/-! ### The check and the frame it closes (R169, R170) -/

/-- A word of sixteen bits in its two bytes, low byte first (R191). -/
theorem leBytes_two (x : BitVec 16) : leBytes 2 x.toNat = [x.setWidth 8, (x >>> 8).setWidth 8] := by
  have hlo : BitVec.ofNat 8 (x.toNat % 256) = x.setWidth 8 := BitVec.eq_of_toNat_eq (by simp)
  have hhi : BitVec.ofNat 8 (x.toNat / 256 % 256) = (x >>> 8).setWidth 8 :=
    BitVec.eq_of_toNat_eq (by simp [Nat.shiftRight_eq_div_pow])
  rw [leBytes, leBytes, leBytes, hlo, hhi]

theorem crc_append (bytes : List Byte) (b : Byte) : crc (bytes ++ [b]) = crcByte (crc bytes) b := by
  rw [crc, List.foldl_append]; rfl

theorem crcBit_of_eq {reg : BitVec 16} {bit : Bool} (h : bit = reg.getLsbD 15) : crcBit reg bit = reg <<< 1 := by
  rw [crcBit, if_pos (beq_iff_eq.2 h)]

theorem crcBit_of_ne {reg : BitVec 16} {bit : Bool} (h : bit ≠ reg.getLsbD 15) : crcBit reg bit = (reg <<< 1) ^^^ 0x1021#16 := by
  rw [crcBit, if_neg (mt beq_iff_eq.1 h)]

/-- Settles O40: each clause is an equation of the check's own definitions. -/
theorem frameCheckIsTheManualsCyclicCheck : Obligations.FrameCheckIsTheManualsCyclicCheck := by
  refine ⟨by simp [crc, crcByte, crcBit], rfl, fun bytes b => crc_append bytes b, fun reg bit => ⟨crcBit_of_ne, crcBit_of_eq⟩,
    fun kind tag data => ?_⟩
  rw [frameBytes, leBytes_two]; rfl

/-- The two check bytes received make the word they came from (R169, R171). -/
theorem check_eq_iff (x : BitVec 16) (low high : Byte) : x = high ++ low ↔ low.toNat + 256 * high.toNat = x.toNat := by
  have ha : (high ++ low).toNat = low.toNat + 256 * high.toNat := by
    rw [BitVec.toNat_append, ← Nat.shiftLeft_add_eq_or_of_lt low.isLt, Nat.shiftLeft_eq]; omega
  rw [← BitVec.toNat_inj, ha]
  exact eq_comm

/-! ### The rows of the frame receiver (R171) -/

/-- The link after a character is delivered: the byte receiver watches for the next fall (R168). -/
def HostLink.idled (h : HostLink) : HostLink :=
  { h with byteRx := { h.byteRx with phase := .watching, awaited := false, delivered := none } }

/-- A delivered byte leaves the frame receiver in `rx`, and the silence is timed from it (R172). -/
def State.receives (s : State) (rx : FrameReceiver) : State :=
  { s with hli := { s.hli.idled with frameRx := rx, silenceFrom := some s.timebase } }

/-- A delivered byte leaves the frame receiver in HUNT. -/
def State.hunts (s : State) : State := { s with hli := { s.hli.idled with frameRx := .hunt, silenceFrom := none } }

@[simp] theorem State.receives_frameRx (s : State) (rx : FrameReceiver) : (s.receives rx).hli.frameRx = rx := rfl

section
variable {s : State} {b : Byte} {len : Nat} {bytes : List Byte}

theorem characterReceived_eq (b : Byte) (s : State) : characterReceived b s = takeByte b { s with hli := s.hli.idled } := rfl

theorem characterReceived_lead (h : s.hli.frameRx = .hunt) (hb : b = 0xB6) : characterReceived b s = s.receives .length := by
  have h' : s.hli.idled.frameRx = .hunt := h
  rw [characterReceived_eq, takeByte]; simp only [h']
  exact if_pos hb

theorem characterReceived_noLead (h : s.hli.frameRx = .hunt) (hb : b ≠ 0xB6) :
    characterReceived b s = { s with hli := s.hli.idled } := by
  have h' : s.hli.idled.frameRx = .hunt := h
  rw [characterReceived_eq, takeByte]; simp only [h']
  exact if_neg hb

theorem characterReceived_length (h : s.hli.frameRx = .length) (hb : 2 ≤ b.toNat ∧ b.toNat ≤ 250) :
    characterReceived b s = s.receives (.body b.toNat []) := by
  have h' : s.hli.idled.frameRx = .length := h
  rw [characterReceived_eq, takeByte]; simp only [h']
  exact if_pos hb

theorem characterReceived_badLength (h : s.hli.frameRx = .length) (hb : ¬ (2 ≤ b.toNat ∧ b.toNat ≤ 250)) :
    characterReceived b s = s.hunts.countLink fun c => { c with lengthError := satInc c.lengthError } := by
  have h' : s.hli.idled.frameRx = .length := h
  rw [characterReceived_eq, takeByte]; simp only [h']
  exact if_neg hb

theorem characterReceived_body (h : s.hli.frameRx = .body len bytes) (hl : bytes.length + 1 < len) :
    characterReceived b s = s.receives (.body len (bytes ++ [b])) := by
  have h' : s.hli.idled.frameRx = .body len bytes := h
  have hl' : (bytes ++ [b]).length < len := by rw [List.length_append]; exact hl
  rw [characterReceived_eq, takeByte]; simp only [h']
  exact if_pos hl'

theorem characterReceived_bodyEnd (h : s.hli.frameRx = .body len bytes) (hl : len ≤ bytes.length + 1) :
    characterReceived b s = s.receives (.check len (bytes ++ [b]) none) := by
  have h' : s.hli.idled.frameRx = .body len bytes := h
  have hl' : ¬ (bytes ++ [b]).length < len := by rw [List.length_append]; exact Nat.not_lt.2 hl
  rw [characterReceived_eq, takeByte]; simp only [h']
  exact if_neg hl'

theorem characterReceived_checkLow (h : s.hli.frameRx = .check len bytes none) :
    characterReceived b s = s.receives (.check len bytes (some b)) := by
  have h' : s.hli.idled.frameRx = .check len bytes none := h
  rw [characterReceived_eq, takeByte]; simp only [h']
  rfl

variable {low : Byte}

theorem characterReceived_checkHigh (h : s.hli.frameRx = .check len bytes (some low)) :
    characterReceived b s = frameComplete len bytes low b { s with hli := s.hli.idled } := by
  have h' : s.hli.idled.frameRx = .check len bytes (some low) := h
  rw [characterReceived_eq, takeByte]; simp only [h']

theorem characterReceived_badCheck (h : s.hli.frameRx = .check len bytes (some low))
    (hc : low.toNat + 256 * b.toNat ≠ (crc (BitVec.ofNat 8 len :: bytes)).toNat) :
    characterReceived b s = s.hunts.countLink fun c => { c with checkError := satInc c.checkError } := by
  rw [characterReceived_checkHigh h, frameComplete, if_neg (mt (check_eq_iff _ _ _).1 hc)]; rfl

/-- A good frame goes to acceptance with its KIND, TAG and DATA (R175). -/
theorem characterReceived_goodCheck {kind tag : Byte} {data : List Byte}
    (h : s.hli.frameRx = .check len (kind :: tag :: data) (some low))
    (hc : low.toNat + 256 * b.toNat = (crc (BitVec.ofNat 8 len :: kind :: tag :: data)).toNat) :
    characterReceived b s = goodFrame kind tag (decodeRequest kind data) s.hunts := by
  rw [characterReceived_checkHigh h, frameComplete, if_pos ((check_eq_iff _ _ _).2 hc)]; rfl

end

/-- Settles O41: a row of R171 at a time. -/
theorem frameReceiverFollowsItsTable : Obligations.FrameReceiverFollowsItsTable := by
  intro b s idle hunt goes
  have taken {u : State} (e : characterReceived b s = u) : exec (.characterReceived b) s = .next u.resume :=
    congrArg (fun u : State => Host.Outcome.next u.resume) e
  refine ⟨fun h hb => taken (characterReceived_lead h hb), fun h hb => taken (characterReceived_noLead h hb),
    fun h h2 h250 => taken (characterReceived_length h ⟨h2, h250⟩), fun h hb => taken (characterReceived_badLength h (by omega)),
    fun len bytes h hl => taken (characterReceived_body h hl), fun len bytes h hl => taken (characterReceived_bodyEnd h hl),
    fun len bytes h => taken (characterReceived_checkLow h), fun len bytes low h => ⟨fun hc => taken (characterReceived_badCheck h hc), ?_⟩⟩
  rintro kind tag data rfl hc
  exact taken (characterReceived_goodCheck h hc)

/-! ### A frame delivered byte by byte (R169, R171) -/

theorem deliver_cons (s : State) (b : Byte) (bs : List Byte) : deliver s (b :: bs) = deliver (characterReceived b s) bs := rfl

theorem deliver_append (s : State) (as bs : List Byte) : deliver s (as ++ bs) = deliver (deliver s as) bs := List.foldl_append

/-- The rest of a frame's KIND, TAG and DATA, delivered to a receiver in BODY, bring it to CHECK with the whole of them. -/
theorem deliver_body {s : State} {len : Nat} (bs : List Byte) (b : Byte) (bytes : List Byte)
    (hl : bytes.length + (bs.length + 1) = len) :
    deliver (s.receives (.body len bytes)) (b :: bs) = s.receives (.check len (bytes ++ b :: bs) none) := by
  induction bs generalizing b bytes with
  | nil => exact characterReceived_bodyEnd (State.receives_frameRx _ _) (by rw [← hl]; rfl)
  | cons c cs ih =>
    have hb : characterReceived b (s.receives (.body len bytes)) = s.receives (.body len (bytes ++ [b])) :=
      characterReceived_body (State.receives_frameRx _ _) (by rw [List.length_cons] at hl; omega)
    rw [deliver_cons, hb, ih c (bytes ++ [b]) (by simp only [List.length_append, List.length_cons, List.length_nil] at hl ⊢; omega),
      List.append_assoc]; rfl

/-- The lead byte, LEN and what LEN covers, delivered to a receiver in HUNT, bring it to CHECK. -/
theorem deliver_covered {s : State} (kind tag : Byte) {data : List Byte} (hd : data.length ≤ 248) (h : s.hli.frameRx = .hunt) :
    deliver s (Config.leadByte :: BitVec.ofNat 8 (data.length + 2) :: kind :: tag :: data) =
      s.receives (.check (data.length + 2) (kind :: tag :: data) none) := by
  have hlen : (BitVec.ofNat 8 (data.length + 2)).toNat = data.length + 2 := by rw [BitVec.toNat_ofNat]; omega
  have h1 : characterReceived Config.leadByte s = s.receives .length := characterReceived_lead h rfl
  have h2 : characterReceived (BitVec.ofNat 8 (data.length + 2)) (s.receives .length) = s.receives (.body (data.length + 2) []) := by
    rw [characterReceived_length (State.receives_frameRx _ _) (by omega), hlen]; rfl
  rw [deliver_cons, h1, deliver_cons, h2, deliver_body (tag :: data) kind [] (by simp only [List.length_cons, List.length_nil]; omega)]
  rfl

/-- The two check bytes of a frame, delivered to a receiver in CHECK, complete it (R171). -/
theorem deliver_check {s : State} (len : Nat) (kind tag : Byte) (data : List Byte) :
    deliver (s.receives (.check len (kind :: tag :: data) none))
        (leBytes 2 (crc (BitVec.ofNat 8 len :: kind :: tag :: data)).toNat) =
      goodFrame kind tag (decodeRequest kind data) s.hunts := by
  generalize hx : crc (BitVec.ofNat 8 len :: kind :: tag :: data) = x
  have h1 : characterReceived (x.setWidth 8) (s.receives (.check len (kind :: tag :: data) none)) =
      s.receives (.check len (kind :: tag :: data) (some (x.setWidth 8))) := characterReceived_checkLow (State.receives_frameRx _ _)
  have hw : (x.setWidth 8).toNat + 256 * ((x >>> 8).setWidth 8).toNat = x.toNat := by
    simp only [BitVec.toNat_setWidth, BitVec.toNat_ushiftRight, Nat.shiftRight_eq_div_pow]
    have := x.isLt
    omega
  rw [leBytes_two, deliver_cons, h1]
  exact characterReceived_goodCheck (State.receives_frameRx _ _) (hx ▸ hw)

/-- Settles O42: the receiver goes from HUNT to CHECK, and the check closes the frame. -/
theorem deliveredBytesMakeTheFrame : Obligations.DeliveredBytesMakeTheFrame := by
  intro kind tag data s hd h
  have hf : frameBytes kind tag data = (Config.leadByte :: BitVec.ofNat 8 (data.length + 2) :: kind :: tag :: data) ++
      leBytes 2 (crc (BitVec.ofNat 8 (data.length + 2) :: kind :: tag :: data)).toNat := rfl
  rw [hf, deliver_append, deliver_covered kind tag hd h, deliver_check]
  rfl

end Sys2Proof.Machine
end

section
/-! SUPPORT. O49, O50 and O51: replies and their cache, the link's errors, and the frames on LTX (R167 to R184). -/

namespace Sys2Proof.Machine

/-! ### The reply cache (R177, R181) -/

section
variable {cache : List CacheEntry} {e : CacheEntry}

/-- With room beside the entries of other tags, those stay in their order and the new entry is the newest (R177). -/
theorem storeReply_of_room {others : List CacheEntry} (h : cache.filter (fun c => c.tag != e.tag) = others) (hl : others.length < 4) :
    storeReply cache e = others ++ [e] := by
  have hl' : others.length < Config.replyCacheSize := hl
  rw [storeReply, h]; exact congrArg (· ++ [e]) (if_pos hl')

/-- Without, the oldest of them makes room (R177). -/
theorem storeReply_of_full {others : List CacheEntry} (h : cache.filter (fun c => c.tag != e.tag) = others) (hl : 4 ≤ others.length) :
    storeReply cache e = others.drop 1 ++ [e] := by
  have hl' : ¬ others.length < Config.replyCacheSize := Nat.not_lt.2 hl
  rw [storeReply, h]; exact congrArg (· ++ [e]) (if_neg hl')

theorem filter_tags_of_absent (h : ∀ x ∈ cache, x.tag ≠ e.tag) : cache.filter (fun c => c.tag != e.tag) = cache :=
  List.filter_eq_self.2 fun x hx => bne_iff_ne.2 (h x hx)

/-- Of distinct tags, the entry of the new one's is the only one that goes. -/
theorem filter_tags_of_present {older newer : List CacheEntry} {x : CacheEntry} (hd : ((older ++ x :: newer).map (·.tag)).Nodup)
    (hx : x.tag = e.tag) : (older ++ x :: newer).filter (fun c => c.tag != e.tag) = older ++ newer := by
  rw [List.map_append, List.map_cons, List.nodup_middle, List.nodup_cons, ← List.map_append, List.mem_map, hx] at hd
  have hrest : ∀ y ∈ older ++ newer, y.tag ≠ e.tag := fun y hy he => hd.1 ⟨y, hy, he⟩
  rw [List.filter_append, List.filter_cons_of_neg (by simp [hx]), ← List.filter_append, filter_tags_of_absent hrest]

end

/-- Settles O49: the cache's three cases are those of `storeReply`. -/
theorem repliesEnterTheQueueAndTheCache : Obligations.RepliesEnterTheQueueAndTheCache := by
  refine ⟨fun w kind tag r => ⟨_, rfl, fun h => if_pos h, fun h => if_neg h⟩, fun m => rfl, fun cache e hl hd => ⟨?_, ?_, ?_⟩⟩
  · rintro older newer x rfl hx
    refine storeReply_of_room (filter_tags_of_present hd hx) ?_
    simp only [List.length_append, List.length_cons] at hl ⊢
    omega
  · exact fun h h4 => storeReply_of_room (filter_tags_of_absent h) h4
  · rintro oldest rest h h4 rfl
    exact storeReply_of_full (filter_tags_of_absent h) h4.ge

/-! ### Gap errors, discarded characters and breaks (R168, R172, R173) -/

/-- The silence in a partial frame has reached its limit (R172). -/
def HostLink.SilenceOver (h : HostLink) (now : Tick) : Prop :=
  h.frameRx ≠ .hunt ∧ ∃ since, h.silenceFrom = some since ∧ 2560 * h.divisor ≤ (now - since).toNat

theorem gapDue_iff (s : State) : s.gapDue = true ↔ s.hli.SilenceOver s.timebase ∧ s.hli.byteRx.awaited = false := by
  simp only [State.gapDue, HostLink.SilenceOver, Bool.and_eq_true, bne_iff_ne, Bool.not_eq_true',
    Option.any_eq_true, decide_eq_true_eq]
  exact and_right_comm

theorem gapError_of_due {s : State} (h : s.hli.SilenceOver s.timebase) (ha : s.hli.byteRx.awaited = false) :
    gapError s = s.toHunt.countLink fun c => { c with gapError := satInc c.gapError } := if_pos ((gapDue_iff s).2 ⟨h, ha⟩)

theorem gapError_of_not_due {s : State} (h : ¬ (s.hli.SilenceOver s.timebase ∧ s.hli.byteRx.awaited = false)) : gapError s = s :=
  if_neg (mt (gapDue_iff s).1 h)

theorem inCharacter_iff (ph : BytePhase) : ph.inCharacter = true ↔ ∃ fall bits, ph = .receiving fall bits := by
  cases ph <;> simp [BytePhase.inCharacter]

/-- Settles O50: each command has its effect where it is due, and none where it is not. -/
theorem linkErrorsReturnTheReceiverToHunt : Obligations.LinkErrorsReturnTheReceiverToHunt := by
  have next {u v : State} (e : u = v) : (u.done : StepOutcome) = .next v.resume := congrArg State.done e
  refine ⟨fun s => ?_, fun rx bitTime breakLength now lrx => inCharacter_iff rx.phase,
    fun s => ⟨fun h => next (if_neg (by rw [h]; exact Bool.false_ne_true)), fun h => next (if_pos h)⟩, fun s => ?_⟩
  · intro due
    refine ⟨?_, fun h => next (gapError_of_not_due fun ⟨hs, ha⟩ => h ⟨hs.1, ha, hs.2⟩)⟩
    rintro ⟨hr, ha, hs⟩
    exact next (gapError_of_due ⟨hr, hs⟩ ha)
  · intro due waiting
    exact ⟨fun h => next (gapError_of_not_due (s := { s with hli := { s.hli with byteRx := waiting } }) fun hs => h hs.1),
      fun h => next (gapError_of_due (s := { s with hli := { s.hli with byteRx := waiting } }) h rfl)⟩

/-! ### Frames on LTX (R167, R168, R183, R184) -/

section
variable {s : State}

theorem transmitReply_of_free {m : Message} {rest : List Message} (ht : s.hli.transmitter = none) (hr : s.hli.replies = m :: rest) :
    transmitReply s = s.setHli { s.hli with
      replies := rest
      transmitter := some { bytes := m.frame, begun := s.timebase, resetReply := s.hli.resetPending && rest.isEmpty } } := by
  rw [transmitReply, ht, hr]

theorem transmitReply_of_not (h : s.hli.transmitter ≠ none ∨ s.hli.replies = []) : transmitReply s = s := by
  unfold transmitReply
  split
  · rename_i ht hr
    rcases h with h | h
    · exact absurd ht h
    · rw [hr] at h; cases h
  · rfl
  · rfl

theorem endFrame_of_over {f : Sending} (ht : s.hli.transmitter = some f) (hr : f.resetReply = false)
    (ho : s.hli.frameOver s.timebase f = true) : endFrame s = s.setHli { s.hli with transmitter := none } := by
  rw [endFrame, ht]
  exact if_pos (by rw [ho, hr]; rfl)

theorem endFrame_of_not (h : ∀ f, s.hli.transmitter = some f → s.hli.frameOver s.timebase f = false ∨ f.resetReply = true) :
    endFrame s = s := by
  unfold endFrame
  split
  · rfl
  · rename_i f ht
    refine if_neg ?_
    rcases h f ht with h | h <;> rw [h] <;> simp

theorem ltx_of_free (h : s.hli.transmitter = none) : s.ltx = true := by rw [State.ltx, h]

theorem ltx_of_bit {f : Sending} {k n : Nat} {b : Byte} (ht : s.hli.transmitter = some f) (hb : f.bytes[k]? = some b) (hn : n < 10)
    (ha : ticksSince s.timebase f.begun / s.hli.bitTime = 10 * k + n) : s.ltx = characterLevel b n := by
  have hk : (10 * k + n) / 10 = k := by omega
  have hm : (10 * k + n) % 10 = n := by omega
  simp only [State.ltx, ht, ha, hk, hm, hb]

end

/-- A character's ten bit times: the start bit, eight data bits and the stop bit (R168). -/
theorem characterLevel_eq (b : Byte) {n : Nat} (hn : n < 10) :
    characterLevel b n = if n = 0 then false else if n = 9 then true else b.getLsbD (n - 1) := by
  rw [characterLevel]
  refine if_congr Iff.rfl rfl ?_
  by_cases h9 : n = 9
  · rw [if_pos h9, if_neg (by omega)]
  · rw [if_neg h9, if_pos (by omega)]

/-- Settles O51: the transmitter by its commands where their conditions hold and where not, LTX by `ltx_of_bit`. -/
theorem framesAreSentWholeAtTheLinksRate : Obligations.FramesAreSentWholeAtTheLinksRate := by
  have next {u v : State} (e : u = v) : (u.done : StepOutcome) = .next v.resume := congrArg State.done e
  refine ⟨fun h => ⟨rfl, rfl, rfl, rfl, rfl⟩, fun s m rest ht hr => next (transmitReply_of_free ht hr),
    fun s h => next (transmitReply_of_not h), fun s f ht hr => ⟨fun ho => ?_, fun ho => ?_⟩, fun s h => next (endFrame_of_not ?_),
    fun s h => ltx_of_free h, fun s f k n b ht hb hn ha => ?_⟩
  · exact next (endFrame_of_over ht hr ((frameOver_iff _ _ _).2 ho))
  · refine next (endFrame_of_not fun f' ht' => .inl ?_)
    obtain rfl : f = f' := Option.some.inj (ht.symm.trans ht')
    exact Bool.eq_false_iff.2 fun h => absurd ((frameOver_iff _ _ _).1 h) (Nat.not_le.2 ho)
  · intro f ht
    rcases h with h | ⟨f', h, hr⟩
    · rw [h] at ht; cases ht
    · rw [h] at ht; cases ht; exact .inr hr
  · rw [ltx_of_bit ht hb hn ha, characterLevel_eq b hn]

end Sys2Proof.Machine
end

section
/-! SUPPORT. O43: the byte receiver along a character, a pulse of noise and a low on LRX (R168, R172, R173). -/

namespace Sys2Proof.Machine

/-! ### One sample of a character (R168) -/

section
variable {bitTime : Nat} {now fall : Tick} {lrx wasHigh : Bool} {bits : List Bool}

theorem sampleCharacter_fall : sampleCharacter bitTime now false true .watching = ⟨.confirming now, none, false⟩ := rfl

theorem sampleCharacter_start (h : sampleDue bitTime now fall 0 = true) : sampleCharacter bitTime now lrx wasHigh (.confirming fall) =
    ⟨if lrx then .watching else .receiving fall [], none, false⟩ := if_pos h

theorem sampleCharacter_beforeStart (h : ¬ sampleDue bitTime now fall 0 = true) :
    sampleCharacter bitTime now lrx wasHigh (.confirming fall) = ⟨.confirming fall, none, false⟩ := if_neg h

theorem sampleCharacter_bit (h : sampleDue bitTime now fall (bits.length + 1) = true) (hl : bits.length < 8) :
    sampleCharacter bitTime now lrx wasHigh (.receiving fall bits) = ⟨.receiving fall (bits ++ [lrx]), none, false⟩ :=
  (if_pos h).trans (if_pos hl)

theorem sampleCharacter_stop (h : sampleDue bitTime now fall (bits.length + 1) = true) (hl : ¬ bits.length < 8) :
    sampleCharacter bitTime now lrx wasHigh (.receiving fall bits) =
      if lrx then ⟨.watching, some (byteOfBits bits), false⟩ else ⟨.waitingHigh, none, true⟩ :=
  (if_pos h).trans (if_neg hl)

theorem sampleCharacter_between (h : ¬ sampleDue bitTime now fall (bits.length + 1) = true) :
    sampleCharacter bitTime now lrx wasHigh (.receiving fall bits) = ⟨.receiving fall bits, none, false⟩ := if_neg h

/-- Outside a character a sample brings neither a byte nor a discard. -/
theorem sampleCharacter_quiet {phase : BytePhase} (h : phase.inCharacter = false) :
    (sampleCharacter bitTime now lrx wasHigh phase).delivered = none ∧
      (sampleCharacter bitTime now lrx wasHigh phase).discarded = false := by
  cases phase with
  | watching | waitingHigh => exact ⟨rfl, rfl⟩
  | confirming fall => unfold sampleCharacter; dsimp only; split <;> exact ⟨rfl, rfl⟩
  | receiving fall bits => cases h

end

/-! ### The middles of the bits (R168) -/

/-- Ticks from the fall to the middle of bit `m` at divisor `D`: 0 the start bit, 9 the stop bit. -/
def bitMiddle (D m : Nat) : Nat := 8 * D + 16 * D * m

theorem bitMiddle_succ (D m : Nat) : bitMiddle D (m + 1) = bitMiddle D m + 16 * D := by
  rw [bitMiddle, bitMiddle, Nat.mul_succ, Nat.add_assoc]

theorem bitMiddle_nine (D : Nat) : bitMiddle D 9 = 152 * D := by rw [bitMiddle]; omega

theorem bitMiddle_strictMono {D : Nat} (hD : 1 ≤ D) : StrictMono (bitMiddle D) :=
  strictMono_nat_of_lt_succ fun m => by rw [bitMiddle_succ]; omega

theorem bitMiddle_div {D : Nat} (hD : 1 ≤ D) (m : Nat) : bitMiddle D m / (16 * D) = m := by
  rw [bitMiddle, Nat.add_mul_div_left _ _ (by omega), Nat.div_eq_of_lt (by omega), Nat.zero_add]

theorem ticksSince_offsets (fall : Tick) {i j : Nat} (hi : i < 2 ^ 48) (hj : j ≤ i) :
    ticksSince (fall + BitVec.ofNat 48 i) (fall + BitVec.ofNat 48 j) = i - j := by
  unfold ticksSince
  bv_omega

theorem ticksSince_offset (fall : Tick) {i : Nat} (hi : i < 2 ^ 48) : ticksSince (fall + BitVec.ofNat 48 i) fall = i := by
  simpa using ticksSince_offsets fall hi (Nat.zero_le i)

theorem sampleDue_iff {D i : Nat} (fall : Tick) (hi : i < 2 ^ 48) (m : Nat) :
    sampleDue (16 * D) (fall + BitVec.ofNat 48 i) fall m = true ↔ i = bitMiddle D m := by
  have h2 : 16 * D / 2 = 8 * D := by omega
  rw [sampleDue, ticksSince_offset fall hi, beq_iff_eq, h2, bitMiddle]

/-! ### The samples after a fall -/

/-- The byte receiver after the samples of `n` ticks from `fall` on, at divisor `D`, with LRX at `level i` at the tick `i` later. -/
def ByteReceiver.sampled (D : Nat) (fall : Tick) (level : Nat → Bool) (rx : ByteReceiver) : Nat → ByteReceiver
  | 0 => rx
  | n + 1 => (rx.sampled D fall level n).sample (16 * D) (320 * D) (fall + BitVec.ofNat 48 n) (level n)

theorem foldl_sample_eq_sampled (D : Nat) (fall : Tick) (level : Nat → Bool) (rx : ByteReceiver) (n : Nat) :
    (List.range n).foldl (fun r i => r.sample (16 * D) (320 * D) (fall + BitVec.ofNat 48 i) (level i)) rx = rx.sampled D fall level n := by
  induction n with
  | zero => rfl
  | succ n ih => rw [List.range_succ, List.foldl_append, ih]; rfl

section
variable {D : Nat} {fall : Tick} {level : Nat → Bool} {rx : ByteReceiver} {n : Nat}

/-- What the sample of tick `n` makes of the character. -/
theorem sampled_succ_eq {c : Sampled}
    (h : sampleCharacter (16 * D) (fall + BitVec.ofNat 48 n) (level n) (rx.sampled D fall level n).level
      (rx.sampled D fall level n).phase = c) :
    (rx.sampled D fall level (n + 1)).phase = c.phase ∧ (rx.sampled D fall level (n + 1)).delivered = c.delivered ∧
      (rx.sampled D fall level (n + 1)).discarded = c.discarded := by
  subst h; exact ⟨rfl, rfl, rfl⟩

theorem sampled_succ_awaited : (rx.sampled D fall level (n + 1)).awaited = (rx.sampled D fall level n).phase.inCharacter := rfl

theorem sampled_succ_breakDue : (rx.sampled D fall level (n + 1)).breakDue = (!(rx.sampled D fall level (n + 1)).breakCounted &&
    (rx.sampled D fall level (n + 1)).lowSince.any fun t => decide (320 * D ≤ ticksSince (fall + BitVec.ofNat 48 n) t)) := rfl

theorem sampled_succ_lowSince : (rx.sampled D fall level (n + 1)).lowSince = if level n then none
    else if (rx.sampled D fall level n).level then some (fall + BitVec.ofNat 48 n) else (rx.sampled D fall level n).lowSince := rfl

theorem sampled_succ_breakCounted :
    (rx.sampled D fall level (n + 1)).breakCounted = ((rx.sampled D fall level n).breakCounted && !level n) := rfl

/-- The fall that began the present low is at or before the last sampled tick. -/
theorem sampled_lowSince (hh : rx.level = true) (hn : 1 ≤ n) {t : Tick} (ht : (rx.sampled D fall level n).lowSince = some t) :
    ∃ j < n, t = fall + BitVec.ofNat 48 j := by
  induction n, hn using Nat.le_induction generalizing t with
  | base =>
    rw [sampled_succ_lowSince, ByteReceiver.sampled, hh] at ht
    split at ht
    · cases ht
    · exact ⟨0, by omega, (Option.some.inj ht).symm⟩
  | succ n hn ih =>
    rw [sampled_succ_lowSince] at ht
    split at ht
    · cases ht
    · split at ht
      · exact ⟨n, by omega, (Option.some.inj ht).symm⟩
      · obtain ⟨j, hj, e⟩ := ih ht
        exact ⟨j, by omega, e⟩

/-- No low of a character is long enough for a break (R173). -/
theorem sampled_breakDue_eq_false (hh : rx.level = true) (hn : 1 ≤ n) (hl : n ≤ 320 * D) (h48 : n < 2 ^ 48) :
    (rx.sampled D fall level n).breakDue = false := by
  obtain ⟨m, rfl⟩ : ∃ m, n = m + 1 := ⟨n - 1, by omega⟩
  rw [sampled_succ_breakDue, Bool.and_eq_false_iff]
  refine .inr ((Option.any_eq_false _ _).2 fun t ht => ?_)
  obtain ⟨j, hj, rfl⟩ := sampled_lowSince hh hn ht
  rw [ticksSince_offsets fall (by omega) (by omega)]
  exact decide_eq_false (by omega)

/-! ### The start bit (R168) -/

variable (hw : rx.phase = .watching) (hh : rx.level = true) (h0 : level 0 = false)
include hw hh h0

/-- Until the middle of its start bit a fall is neither confirmed nor ignored. -/
theorem sampled_confirming (hD : D ≤ 64) (hn : 1 ≤ n) (hl : n ≤ 8 * D) : (rx.sampled D fall level n).phase = .confirming fall := by
  induction n, hn using Nat.le_induction with
  | base =>
    have hs : sampleCharacter (16 * D) (fall + BitVec.ofNat 48 0) (level 0) rx.level rx.phase = ⟨.confirming fall, none, false⟩ := by
      rw [h0, hh, hw, sampleCharacter_fall, BitVec.add_zero]
    exact (sampled_succ_eq hs).1
  | succ n hn ih =>
    have hd : ¬ sampleDue (16 * D) (fall + BitVec.ofNat 48 n) fall 0 = true := by
      rw [sampleDue_iff fall (by omega), bitMiddle]; omega
    exact (sampled_succ_eq (by rw [ih (by omega), sampleCharacter_beforeStart hd])).1

/-- Until then no character is received. -/
theorem sampled_not_inCharacter (hD : D ≤ 64) (hl : n ≤ 8 * D) : (rx.sampled D fall level n).phase.inCharacter = false := by
  rcases Nat.eq_zero_or_pos n with rfl | hn
  · rw [ByteReceiver.sampled, hw]; rfl
  · rw [sampled_confirming hw hh h0 hD hn hl]; rfl

/-- At the middle of the start bit a high is noise, and a low confirms the character. -/
theorem sampled_start (hD1 : 1 ≤ D) (hD : D ≤ 64) :
    (rx.sampled D fall level (8 * D + 1)).phase = if level (8 * D) then .watching else .receiving fall [] := by
  have hd : sampleDue (16 * D) (fall + BitVec.ofNat 48 (8 * D)) fall 0 = true := (sampleDue_iff fall (by omega) 0).2 rfl
  exact (sampled_succ_eq (by rw [sampled_confirming hw hh h0 hD (by omega) le_rfl, sampleCharacter_start hd])).1

/-! ### The data bits and the stop bit (R168) -/

/-- After the middle of bit `k` and up to that of the next, the character stands at the `k` data bits sampled, and nothing has come of
it yet. -/
theorem sampled_receiving (hD1 : 1 ≤ D) (hD : D ≤ 64) (h8 : level (8 * D) = false) (hn : 8 * D + 1 ≤ n) (hl : n ≤ bitMiddle D 9) :
    ∃ k ≤ 8, bitMiddle D k < n ∧ n ≤ bitMiddle D (k + 1) ∧
      (rx.sampled D fall level n).phase = .receiving fall ((List.range k).map fun m => level (bitMiddle D (m + 1))) ∧
      (rx.sampled D fall level n).delivered = none ∧ (rx.sampled D fall level n).discarded = false := by
  have h9 := bitMiddle_nine D
  induction n, hn using Nat.le_induction with
  | base =>
    refine ⟨0, by omega, by rw [bitMiddle]; omega, by rw [bitMiddle]; omega, ?_,
      sampleCharacter_quiet (sampled_not_inCharacter hw hh h0 hD le_rfl)⟩
    rw [sampled_start hw hh h0 hD1 hD, h8]; rfl
  | succ n hn ih =>
    obtain ⟨k, hk, hlo, hhi, hp, -⟩ := ih (by omega)
    have hlen : ((List.range k).map fun m => level (bitMiddle D (m + 1))).length = k := by simp
    have hdue := sampleDue_iff (D := D) fall (i := n) (by omega) (k + 1)
    by_cases hm : n = bitMiddle D (k + 1)
    · have hk8 : k + 1 < 9 := (bitMiddle_strictMono hD1).lt_iff_lt.1 (by omega)
      refine ⟨k + 1, by omega, by omega, by rw [bitMiddle_succ]; omega, ?_⟩
      rw [List.range_succ, List.map_append, List.map_singleton, ← hm]
      exact sampled_succ_eq (by rw [hp, sampleCharacter_bit (by rw [hlen]; exact hdue.2 hm) (by omega)])
    · refine ⟨k, hk, by omega, by omega, ?_⟩
      exact sampled_succ_eq (by rw [hp, sampleCharacter_between (by rw [hlen]; exact mt hdue.1 hm)])

/-- Before the middle of the stop bit no byte is delivered and no character discarded. -/
theorem sampled_quiet (hD1 : 1 ≤ D) (hD : D ≤ 64) (h8 : level (8 * D) = false) (hn : 1 ≤ n) (hl : n ≤ bitMiddle D 9) :
    (rx.sampled D fall level n).delivered = none ∧ (rx.sampled D fall level n).discarded = false := by
  by_cases hm : n ≤ 8 * D
  · obtain ⟨m, rfl⟩ : ∃ m, n = m + 1 := ⟨n - 1, by omega⟩
    exact sampleCharacter_quiet (sampled_not_inCharacter hw hh h0 hD (by omega))
  · obtain ⟨k, -, -, -, -, hq⟩ := sampled_receiving hw hh h0 hD1 hD h8 (n := n) (by omega) hl
    exact hq

/-- A character is awaited exactly from the tick after its start bit is confirmed (R172). -/
theorem sampled_awaited_iff (hD1 : 1 ≤ D) (hD : D ≤ 64) (h8 : level (8 * D) = false) (hn : 1 ≤ n) (hl : n ≤ bitMiddle D 9 + 1) :
    (rx.sampled D fall level n).awaited = true ↔ 8 * D + 2 ≤ n := by
  obtain ⟨m, rfl⟩ : ∃ m, n = m + 1 := ⟨n - 1, by omega⟩
  rw [sampled_succ_awaited]
  by_cases hm : m ≤ 8 * D
  · rw [sampled_not_inCharacter hw hh h0 hD hm]
    exact iff_of_false Bool.false_ne_true (by omega)
  · obtain ⟨k, -, -, -, hp, -⟩ := sampled_receiving hw hh h0 hD1 hD h8 (n := m) (by omega) (by omega)
    rw [hp]
    exact iff_of_true rfl (by omega)

/-- The middle of the stop bit ends the character: its byte is delivered, or it is discarded. -/
theorem sampled_stop (hD1 : 1 ≤ D) (hD : D ≤ 64) (h8 : level (8 * D) = false) :
    let byte := byteOfBits ((List.range 8).map fun m => level (bitMiddle D (m + 1)))
    let last := rx.sampled D fall level (bitMiddle D 9 + 1)
    last.delivered = (if level (bitMiddle D 9) then some byte else none) ∧ last.discarded = !level (bitMiddle D 9) ∧
      last.phase = (if level (bitMiddle D 9) then .watching else .waitingHigh) := by
  have h9 := bitMiddle_nine D
  obtain ⟨k, hk, -, hhi, hp, -⟩ := sampled_receiving hw hh h0 hD1 hD h8 (n := bitMiddle D 9) (by omega) le_rfl
  obtain rfl : k = 8 := by
    have := (bitMiddle_strictMono hD1).le_iff_le.1 hhi
    omega
  have hlen : ((List.range 8).map fun m => level (bitMiddle D (m + 1))).length = 8 := by simp
  have hd : sampleDue (16 * D) (fall + BitVec.ofNat 48 (bitMiddle D 9)) fall 9 = true := (sampleDue_iff fall (by omega) 9).2 rfl
  have hs := sampled_succ_eq (n := bitMiddle D 9)
    (by rw [hp, sampleCharacter_stop (by rw [hlen]; exact hd) (by rw [hlen]; omega)])
  obtain ⟨hphase, hdel, hdis⟩ := hs
  dsimp only
  rw [hphase, hdel, hdis]
  cases level (bitMiddle D 9) <;> exact ⟨rfl, rfl, rfl⟩

end

/-! ### A character at the part's own rate -/

/-- LRX along a character that falls at tick 0: its start bit, the bits of `b`, and `stop` (R168). -/
def characterLine (D : Nat) (b : Byte) (stop : Bool) (i : Nat) : Bool :=
  if i / (16 * D) = 0 then false else if i / (16 * D) ≤ 8 then b.getLsbD (i / (16 * D) - 1) else stop

theorem characterLine_zero (D : Nat) (b : Byte) (stop : Bool) : characterLine D b stop 0 = false := if_pos (Nat.zero_div _)

section
variable {D : Nat} (hD : 1 ≤ D) (b : Byte) (stop : Bool)
include hD

theorem characterLine_start : characterLine D b stop (8 * D) = false := if_pos (bitMiddle_div hD 0)

theorem characterLine_data {m : Nat} (hm : m < 8) : characterLine D b stop (bitMiddle D (m + 1)) = b.getLsbD m := by
  rw [characterLine, bitMiddle_div hD, if_neg (by omega), if_pos (by omega), Nat.add_sub_cancel]

theorem characterLine_stop : characterLine D b stop (bitMiddle D 9) = stop := by
  rw [characterLine, bitMiddle_div hD, if_neg (by omega), if_neg (by omega)]

/-- The eight data bits make the byte again (R168). -/
theorem byteOfBits_characterLine :
    byteOfBits ((List.range 8).map fun m => characterLine D b stop (bitMiddle D (m + 1))) = b := by
  refine BitVec.eq_of_getLsbD_eq fun i hi => ?_
  rw [byteOfBits, BitVec.getLsbD_ofNat, flagByte_testBit]
  simp [hi, characterLine_data hD b stop hi]

end

/-! ### A low held (R173) -/

section
variable {D : Nat} {fall : Tick} {rx : ByteReceiver}

theorem sampled_low (hh : rx.level = true) (hb : rx.breakCounted = false) (n : Nat) :
    (rx.sampled D fall (fun _ => false) (n + 1)).level = false ∧
      (rx.sampled D fall (fun _ => false) (n + 1)).lowSince = some fall ∧
      (rx.sampled D fall (fun _ => false) (n + 1)).breakCounted = false := by
  induction n with
  | zero =>
    refine ⟨rfl, ?_, ?_⟩
    · rw [sampled_succ_lowSince, ByteReceiver.sampled, hh, BitVec.add_zero]; rfl
    · rw [sampled_succ_breakCounted, ByteReceiver.sampled, hb]; rfl
  | succ n ih =>
    obtain ⟨hlevel, hlow, hcount⟩ := ih
    refine ⟨rfl, ?_, ?_⟩
    · rw [sampled_succ_lowSince, hlevel, hlow]; rfl
    · rw [sampled_succ_breakCounted, hcount]; rfl

theorem sampled_low_breakDue_iff (hh : rx.level = true) (hb : rx.breakCounted = false) {n : Nat} (hn : n < 2 ^ 48) :
    (rx.sampled D fall (fun _ => false) (n + 1)).breakDue = true ↔ 320 * D ≤ n := by
  obtain ⟨-, hlow, hcount⟩ := sampled_low (D := D) (fall := fall) hh hb n
  rw [sampled_succ_breakDue, hlow, hcount, Option.any_some, ticksSince_offset fall hn]
  exact decide_eq_true_iff

end

/-! ### O43 -/

/-- Settles O43: the character by `sampled_stop` and what comes before it, the noise by `sampled_start`, the low by
`sampled_low_breakDue_iff`. -/
theorem charactersAreSampledAtTheMiddleOfTheirBits : Obligations.CharactersAreSampledAtTheMiddleOfTheirBits := by
  intro D fall rx hmem after
  have hD : 1 ≤ D ∧ D ≤ 64 := by
    simp only [List.mem_cons, List.not_mem_nil, or_false] at hmem
    omega
  obtain ⟨hD1, hD64⟩ := hD
  have hafter (level : Nat → Bool) (n : Nat) : after level n = rx.sampled D fall level n := foldl_sample_eq_sampled D fall level rx n
  have h9 : 9 * (16 * D) + 8 * D = bitMiddle D 9 := by rw [bitMiddle_nine]; omega
  have h9' := bitMiddle_nine D
  simp only [hafter, h9]
  refine ⟨fun b stop hw hh => ?_, fun level hw hh h0 h8 => ?_, fun hh hb n hn => sampled_low_breakDue_iff hh hb hn⟩
  · have h0 := characterLine_zero D b stop
    have h8 := characterLine_start hD1 b stop
    obtain ⟨hdel, hdis, hphase⟩ := sampled_stop (fall := fall) hw hh h0 hD1 hD64 h8
    rw [byteOfBits_characterLine hD1, characterLine_stop hD1] at hdel
    rw [characterLine_stop hD1] at hdis hphase
    refine ⟨fun n hn hl => ?_, fun n hn hl => sampled_awaited_iff hw hh h0 hD1 hD64 h8 hn hl, hdel, hdis, hphase⟩
    obtain ⟨hq1, hq2⟩ := sampled_quiet (fall := fall) hw hh h0 hD1 hD64 h8 hn hl
    exact ⟨hq1, hq2, sampled_breakDue_eq_false hh hn (by omega) (by omega)⟩
  · refine ⟨fun n hn hl => sampled_confirming hw hh h0 hD64 hn hl, ?_, fun n hn hl => ?_⟩
    · rw [sampled_start hw hh h0 hD1 hD64, h8]; rfl
    · obtain ⟨m, rfl⟩ : ∃ m, n = m + 1 := ⟨n - 1, by omega⟩
      have hin := sampled_not_inCharacter (fall := fall) hw hh h0 hD64 (n := m) (by omega)
      obtain ⟨hq1, hq2⟩ := sampleCharacter_quiet hin
      exact ⟨hq1, hq2, hin⟩

end Sys2Proof.Machine
end

section
/-! SUPPORT. Layouts: a table of consecutive fields, the bytes it stands for, and what is read at each offset of them (R191). -/

namespace Sys2Proof

/-! ### Reading parts of DATA -/

theorem leBytes_one (b : Byte) : leBytes 1 b.toNat = [b] := by
  have hb : b.toNat % 256 = b.toNat := Nat.mod_eq_of_lt b.isLt
  rw [leBytes, hb, BitVec.ofNat_toNat, BitVec.setWidth_eq, leBytes]

/-- A number in `n` bytes is taken modulo 256^n. -/
theorem leBytes_mod (n v : Nat) : leBytes n (v % 256 ^ n) = leBytes n v := by
  induction n generalizing v with
  | zero => rfl
  | succ n ih =>
    have hlow : v % 256 ^ (n + 1) % 256 = v % 256 := Nat.mod_mod_of_dvd v (dvd_pow_self 256 n.succ_ne_zero)
    have hhigh : v % 256 ^ (n + 1) / 256 = v / 256 % 256 ^ n := by rw [pow_succ', Nat.mod_mul_right_div_self]
    rw [leBytes, leBytes, hlow, hhigh, ih]

theorem leNat_append (a b : List Byte) : leNat (a ++ b) = leNat a + 256 ^ a.length * leNat b := by
  induction a with
  | nil => rw [List.nil_append, List.length_nil, pow_zero, one_mul]; exact (Nat.zero_add _).symm
  | cons x a ih => rw [List.cons_append, leNat, leNat, ih, List.length_cons, pow_succ]; ring

theorem leField_append_of_le {a : List Byte} {off n : Nat} (h : off + n ≤ a.length) (b : List Byte) :
    leField (a ++ b) off n = leField a off n := by
  have hn : n ≤ (a.drop off).length := by rw [List.length_drop]; omega
  rw [leField, leField, List.drop_append_of_le_length (by omega), List.take_append_of_le_length hn]

theorem leField_append_right {a : List Byte} {m : Nat} (h : a.length = m) (b : List Byte) (off n : Nat) :
    leField (a ++ b) (m + off) n = leField b off n := by
  rw [leField, leField, ← List.drop_drop, List.drop_left' h]

/-- A field is read part by part, the low bytes first. -/
theorem leField_add (d : List Byte) (off m n : Nat) :
    leField d off (m + n) = leField d off m + 256 ^ m * leField d (off + m) n := by
  simp only [leField]
  rw [List.take_add, List.drop_drop, leNat_append, List.length_take]
  rcases Nat.le_total m (d.drop off).length with h | h
  · rw [Nat.min_eq_left h]
  · have hout : d.drop (off + m) = [] := by rw [← List.drop_drop, List.drop_eq_nil_of_le h]
    rw [hout, List.take_nil, leNat, mul_zero, mul_zero]

theorem leField_add_eq_zero {d : List Byte} {off m n : Nat} (hm : leField d off m = 0) (hn : leField d (off + m) n = 0) :
    leField d off (m + n) = 0 := by
  rw [leField_add, hm, hn, Nat.zero_add, mul_zero]

theorem byteField_toNat (d : List Byte) (off : Nat) : (byteField d off).toNat = leField d off 1 := by
  induction d generalizing off with
  | nil => rw [leField, List.drop_nil]; rfl
  | cons b d ih =>
    cases off with
    | zero => exact (Nat.add_zero _).symm
    | succ off => exact ih off

theorem leField_map {α : Type} (f : α → Byte) {xs : List α} {i : Nat} (hi : i < xs.length) :
    leField (xs.map f) i 1 = (f xs[i]).toNat := by
  have hi' : i < (xs.map f).length := by rwa [List.length_map]
  rw [← byteField_toNat, byteField, List.getD_eq_getElem _ _ hi', List.getElem_map]

/-! ### Records of one width, one after another -/

theorem drop_flatMap {α : Type} {g : α → List Byte} {k : Nat} (hg : ∀ x, (g x).length = k) (i : Nat) (xs : List α) :
    (xs.flatMap g).drop (k * i) = (xs.drop i).flatMap g := by
  induction i generalizing xs with
  | zero => rfl
  | succ i ih =>
    cases xs with
    | nil => exact List.drop_nil
    | cons x xs => rw [Nat.mul_succ, Nat.add_comm, ← List.drop_drop, List.flatMap_cons, List.drop_left' (hg x), ih]; rfl

/-- A part of record `i` stands `k * i` further on. -/
theorem take_drop_flatMap {α : Type} {g : α → List Byte} {k : Nat} (hg : ∀ x, (g x).length = k) {xs : List α} {i : Nat}
    (hi : i < xs.length) {j n : Nat} (hn : j + n ≤ k) :
    ((xs.flatMap g).drop (k * i + j)).take n = ((g xs[i]).drop j).take n := by
  have hlen := hg xs[i]
  have hrest : n ≤ ((g xs[i]).drop j).length := by rw [List.length_drop]; omega
  rw [← List.drop_drop, drop_flatMap hg, List.drop_eq_getElem_cons hi, List.flatMap_cons,
    List.drop_append_of_le_length (by omega), List.take_append_of_le_length hrest]

theorem leField_flatMap {α : Type} {g : α → List Byte} {k : Nat} (hg : ∀ x, (g x).length = k) {xs : List α} {i : Nat}
    (hi : i < xs.length) {j n : Nat} (hn : j + n ≤ k) : leField (xs.flatMap g) (k * i + j) n = leField (g xs[i]) j n :=
  congrArg leNat (take_drop_flatMap hg hi hn)

theorem leField_flatMap_record {α : Type} {g : α → List Byte} {k : Nat} (hg : ∀ x, (g x).length = k) {xs : List α} {i : Nat}
    (hi : i < xs.length) : leField (xs.flatMap g) (k * i) k = leNat (g xs[i]) :=
  (leField_flatMap hg hi (j := 0) (Nat.zero_add k).le).trans (congrArg leNat (List.take_of_length_le (hg _).le))

theorem edgeBytes_eq_flatMap (es : List Sample32) : edgeBytes es = es.flatMap fun e => leBytes 4 e.toNat := by
  induction es with
  | nil => rfl
  | cons e es ih => rw [edgeBytes, ih, List.flatMap_cons]

theorem leNat_leBytes_toNat {w : Nat} (n : Nat) (x : BitVec w) (h : w ≤ 8 * n) : leNat (leBytes n x.toNat) = x.toNat := by
  have hx : x.toNat < 256 ^ n := x.isLt.trans_le ((Nat.pow_le_pow_right two_pos h).trans_eq (pow_mul 2 8 n))
  rw [leNat_leBytes, Nat.mod_eq_of_lt hx]

theorem leField_edgeBytes {es : List Sample32} {i : Nat} (hi : i < es.length) : leField (edgeBytes es) (4 * i) 4 = es[i].toNat := by
  rw [edgeBytes_eq_flatMap, leField_flatMap_record (fun e => leBytes_length 4 e.toNat) hi, leNat_leBytes_toNat 4 es[i] le_rfl]

/-! ### Tables of fields -/

/-- One field of a layout: a word and the number of bytes that hold it. -/
structure Field where
  width : Nat
  value : BitVec (8 * width)

/-- A field of one byte. -/
def Field.byte (b : Byte) : Field := ⟨1, b⟩

def Field.bytes (f : Field) : List Byte := leBytes f.width f.value.toNat

@[simp] theorem Field.byte_width (b : Byte) : (Field.byte b).width = 1 := rfl

@[simp] theorem Field.byte_value (b : Byte) : (Field.byte b).value = b := rfl

@[simp] theorem Field.mk_bytes (n : Nat) (x : BitVec (8 * n)) : Field.bytes ⟨n, x⟩ = leBytes n x.toNat := rfl

@[simp] theorem Field.byte_bytes (b : Byte) : (Field.byte b).bytes = [b] := leBytes_one b

@[simp] theorem Field.bytes_length (f : Field) : f.bytes.length = f.width := leBytes_length _ _

theorem leNat_fieldBytes (f : Field) : leNat f.bytes = f.value.toNat := leNat_leBytes_toNat f.width f.value le_rfl

/-- The bytes of a table of fields, in order and with nothing between them (R191). -/
def layoutBytes (fs : List Field) : List Byte := fs.flatMap Field.bytes

@[simp] theorem layoutBytes_nil : layoutBytes [] = [] := rfl

@[simp] theorem layoutBytes_cons (f : Field) (fs : List Field) : layoutBytes (f :: fs) = f.bytes ++ layoutBytes fs := rfl

@[simp] theorem layoutBytes_length (fs : List Field) : (layoutBytes fs).length = (fs.map Field.width).sum := by
  simp [layoutBytes, List.length_flatMap]

/-- DATA holds the fields of a table, the first of them at offset `off`. -/
def FieldsAt (d : List Byte) : Nat → List Field → Prop
  | _, [] => True
  | off, f :: fs => leField d off f.width = f.value.toNat ∧ FieldsAt d (off + f.width) fs

/-- The bytes of a table hold its fields, whatever stands before and behind them. -/
theorem fieldsAt_layoutBytes {a : List Byte} {off : Nat} (ha : a.length = off) (fs : List Field) (rest : List Byte) :
    FieldsAt (a ++ (layoutBytes fs ++ rest)) off fs := by
  induction fs generalizing a off with
  | nil => exact trivial
  | cons f fs ih =>
    have hf : leField (a ++ (layoutBytes (f :: fs) ++ rest)) off f.width = leNat f.bytes := by
      rw [leField, List.drop_left' ha, layoutBytes_cons, List.append_assoc, List.take_left' f.bytes_length]
    have hfs := ih (a := a ++ f.bytes) (off := off + f.width) (by rw [List.length_append, ha, f.bytes_length])
    rw [List.append_assoc, ← List.append_assoc f.bytes] at hfs
    exact ⟨hf.trans (leNat_fieldBytes f), hfs⟩

theorem fieldsAt_front (fs : List Field) (rest : List Byte) : FieldsAt (layoutBytes fs ++ rest) 0 fs :=
  fieldsAt_layoutBytes (a := []) rfl fs rest

theorem fieldsAt_whole (fs : List Field) : FieldsAt (layoutBytes fs) 0 fs := by
  have h := fieldsAt_front fs []
  rwa [List.append_nil] at h

/-- A number below 256 is the number of its byte. -/
theorem byte_toNat_of_lt {v : Nat} (h : v < 256) : (BitVec.ofNat 8 v).toNat = v := Nat.mod_eq_of_lt h

theorem finByte_toNat {n : Nat} (i : Fin n) (h : n ≤ 256) : (BitVec.ofNat 8 i.val).toNat = i.val := byte_toNat_of_lt (i.isLt.trans_le h)

end Sys2Proof
end

section
/-! SUPPORT. O48: the tables of R195 and R196, each tied to the bytes the model forms. -/

namespace Sys2Proof.Machine

/-! ### Flag bytes (R191) -/

theorem flagByte_lt (bs : List Bool) : flagByte bs < 2 ^ bs.length := by
  induction bs with
  | nil => exact Nat.one_pos
  | cons b bs ih =>
    have hb := Bool.toNat_lt b
    rw [flagByte, List.length_cons, pow_succ]
    omega

/-- Up to eight flags fit in their byte. -/
theorem flagByte_toNat {bs : List Bool} (h : bs.length ≤ 8) : (BitVec.ofNat 8 (flagByte bs)).toNat = flagByte bs :=
  byte_toNat_of_lt ((flagByte_lt bs).trans_le (Nat.pow_le_pow_right two_pos h))

theorem Accumulator.flagsByte_toNat (a : Accumulator) : a.flagsByte.toNat = a.saturated.toNat := flagByte_toNat (by simp)

theorem Sample.flagsByte_toNat (x : Sample) : x.flagsByte.toNat = x.saturated.toNat + 2 * x.level.toNat := flagByte_toNat (by simp)

theorem ReportFlags.byte_toNat (f : ReportFlags) :
    f.byte.toNat = f.saturated.toNat + 2 * f.settled.toNat + 4 * f.level.toNat + 8 * f.illegal.toNat := by
  rw [ReportFlags.byte, flagByte_toNat (by simp)]
  simp only [flagByte]
  omega

theorem boolByte_toNat (b : Bool) : (boolByte b).toNat = b.toNat := by cases b <;> rfl

/-- Two bytes hold the levels of lines 0 to 15; further flags have no place. -/
theorem levelBytes_eq (bs : List Bool) : levelBytes bs = Field.bytes ⟨2, BitVec.ofNat 16 (flagByte bs)⟩ :=
  calc levelBytes bs = leBytes 2 (flagByte bs % 256 ^ 2) := (leBytes_mod 2 _).symm
    _ = Field.bytes ⟨2, BitVec.ofNat 16 (flagByte bs)⟩ := rfl

/-- Bit `i` of the levels of the sixteen lines is the level of line `i` (R195). -/
theorem testBit_levels (lines : Vector Line 16) (level : Line → Bool) (i : LineId) :
    (BitVec.ofNat 16 (flagByte (lines.toList.map level))).toNat.testBit i.val = level lines[i.val] := by
  have hi : i.val < 16 := i.isLt
  rw [BitVec.testBit_toNat, BitVec.getLsbD_ofNat, flagByte_testBit]
  simp [hi]

/-! ### Samples and accumulators that may be absent (R191) -/

/-- A sample as a layout shows it: 0 where there is none. -/
def shownSample (x : Option Sample) : Sample := x.getD { value := 0, saturated := false, level := false }

section
variable {d : List Byte} {off : Nat}

theorem leField_shownSample {o : Option Sample} (hv : leField d off 4 = (shownSample o).value.toNat)
    (hf : leField d (off + 4) 1 = (shownSample o).flagsByte.toNat) :
    (∀ x, o = some x → leField d off 4 = x.value.toNat ∧ leField d (off + 4) 1 = x.saturated.toNat + 2 * x.level.toNat) ∧
      (o = none → leField d off 5 = 0) := by
  refine ⟨fun x h => ?_, fun h => ?_⟩
  · subst h
    exact ⟨hv, hf.trans x.flagsByte_toNat⟩
  · subst h
    exact leField_add_eq_zero hv hf

theorem leField_partialAcc {o : Option Accumulator} (hv : leField d off 4 = (o.getD .cleared).value.toNat)
    (hf : leField d (off + 4) 1 = (o.getD .cleared).flagsByte.toNat) :
    (∀ a, o = some a → leField d off 4 = a.value.toNat ∧ leField d (off + 4) 1 = a.saturated.toNat) ∧
      (o = none → leField d off 5 = 0) := by
  refine ⟨fun a h => ?_, fun h => ?_⟩
  · subst h
    exact ⟨hv, hf.trans a.flagsByte_toNat⟩
  · subst h
    exact leField_add_eq_zero hv hf

end

/-! ### PROBE_READ (R9, R195) -/

/-- The accumulator as PROBE_READ shows it: 0 where the state has none. -/
def Probe.shownAcc (pr : Probe) : Accumulator := if pr.accShown then pr.acc else .cleared

/-- The table of PROBE_READ outside FREE, between the plan record and the history (R195). -/
def probeReadFields (pr : Probe) (waiting : Nat) : List Field :=
  [.byte pr.generation, .byte pr.presence, .byte ((pr.armedFrom.map (·.toState.code)).getD 0), ⟨6, pr.startAt.getD 0⟩,
    ⟨6, pr.runStart.getD 0⟩, ⟨3, pr.windowsDone⟩, ⟨4, pr.shownAcc.value⟩, .byte pr.shownAcc.flagsByte,
    .byte (boolByte (pr.openShown && pr.windowOpen)), ⟨4, (shownSample pr.lastSample).value⟩,
    .byte (shownSample pr.lastSample).flagsByte, .byte ((pr.lastOutcome.map (·.code)).getD 0), ⟨2, pr.quadErrors⟩,
    ⟨4, pr.generated⟩, ⟨4, pr.transmitted⟩, ⟨4, pr.lost⟩, .byte (BitVec.ofNat 8 waiting), .byte (boolByte pr.qual.settled),
    .byte (BitVec.ofNat 8 pr.qual.history.length)]

theorem probeRead_data {pr : Probe} {pl : Plan} (hpl : pr.plan = some pl) (hfree : pr.state ≠ .free) (waiting : Nat) :
    (Reply.probeRead pr waiting).data =
      0x00 :: pr.state.code :: pl.record.bytes ++ (layoutBytes (probeReadFields pr waiting) ++ edgeBytes pr.qual.history) := by
  simp [Reply.data, Probe.readBytes, hpl, hfree, probeReadFields, optTickBytes, tickBytes, Probe.shownAcc, shownSample]

theorem probeRead_data_free {pr : Probe} (h : pr.state = .free) (waiting : Nat) : (Reply.probeRead pr waiting).data = [0x00, 0x00] := by
  rw [Reply.data, Probe.readBytes, h]
  cases pr.plan <;> rfl

theorem Kind.edgeDefined_iff (k : Kind) : k.edgeDefined = true ↔ k = .levelTime ∨ k = .highTime ∨ k = .span := by
  cases k <;> simp [Kind.edgeDefined]

theorem Probe.openShown_iff {pr : Probe} {pl : Plan} (hpl : pr.plan = some pl) : pr.openShown = true ↔
    (pr.state = .running ∨ pr.state = .done) ∧ (pl.kind = .levelTime ∨ pl.kind = .highTime ∨ pl.kind = .span) := by
  rw [Probe.openShown, hpl, Option.any_some, Bool.and_eq_true, pr.accShown_iff, Kind.edgeDefined_iff]

/-- Bit `i` of the presence byte is entry `i` of its list, and bit 7 is 0 (R195). -/
theorem Probe.presence_getLsbD (pr : Probe) {i : Nat} (hi : i < 8) : pr.presence.getLsbD i =
    [pr.armedFrom.isSome, pr.startAt.isSome, pr.runStart.isSome, pr.lastSample.isSome, pr.lastOutcome.isSome, pr.accShown,
      pr.openShown].getD i false := by
  rw [Probe.presence, BitVec.getLsbD_ofNat, flagByte_testBit, decide_eq_true hi, Bool.true_and]

/-! ### The other replies (R195) -/

/-- The table of STATUS (R195). -/
def statusFields (v : StatusView) : List Field :=
  [.byte 0x00, ⟨2, v.counters.goodFrame⟩, ⟨2, v.counters.checkError⟩, ⟨2, v.counters.lengthError⟩, ⟨2, v.counters.gapError⟩,
    ⟨2, v.counters.lineBreak⟩, ⟨2, v.counters.busyDrop⟩, ⟨2, v.counters.replay⟩, ⟨2, v.systemLost⟩, ⟨2, v.cascadeCut⟩,
    .byte (BitVec.ofNat 8 v.probeTotal), .byte (BitVec.ofNat 8 v.systemTotal), .byte v.credits,
    .byte (ownerCode (v.staging.map (·.owner))), .byte ((v.staging.map (·.stage.phase.code)).getD 0xFF), ⟨6, v.now⟩]

theorem status_data (v : StatusView) : (Reply.status v).data = layoutBytes (statusFields v) := by
  simp [Reply.data, StatusView.bytes, statusFields, tickBytes]

/-- The table of LINE_READ up to the selections (R195). -/
def lineReadFields (now : Tick) (lines : Vector Line 16) : List Field :=
  [.byte 0x00, ⟨6, now⟩, ⟨2, BitVec.ofNat 16 (flagByte (lines.toList.map (·.raw)))⟩,
    ⟨2, BitVec.ofNat 16 (flagByte (lines.toList.map (·.filtered)))⟩]

/-- The selection of each line, one byte each (R195). -/
def selectionBytes (lines : Vector Line 16) : List Byte := lines.toList.map fun l => BitVec.ofNat 8 l.selection.val

theorem selectionBytes_length (lines : Vector Line 16) : (selectionBytes lines).length = 16 := by
  simp [selectionBytes]

theorem lineRead_data (now : Tick) (lines : Vector Line 16) (thresholds : Vector Nat 4) : (Reply.lineRead now lines thresholds).data =
    layoutBytes (lineReadFields now lines) ++ (selectionBytes lines ++ thresholds.toList.flatMap (leBytes 2)) := by
  simp [Reply.data, levelBytes_eq, lineReadFields, selectionBytes, tickBytes]

/-- The table of SNAPSHOT (R195). -/
def snapshotFields (acc : Accumulator) (windowsDone : BitVec 24) (quadErrors : BitVec 16) (now : Tick) : List Field :=
  [.byte 0x00, ⟨4, acc.value⟩, .byte acc.flagsByte, ⟨3, windowsDone⟩, ⟨2, quadErrors⟩, ⟨6, now⟩]

theorem snapshot_data (acc : Accumulator) (windowsDone : BitVec 24) (quadErrors : BitVec 16) (now : Tick) :
    (Reply.snapshot acc windowsDone quadErrors now).data = layoutBytes (snapshotFields acc windowsDone quadErrors now) := by
  simp [Reply.data, snapshotFields, tickBytes]

/-- The table of HIST_READ up to the edges (R195). -/
def histReadFields (generation : BitVec 8) (edgeCount : Nat) (half : Byte) (now : Tick) (total : BitVec 32) : List Field :=
  [.byte 0x00, .byte generation, .byte (BitVec.ofNat 8 edgeCount), .byte half, ⟨6, now⟩, ⟨4, total⟩]

theorem histRead_data (generation : BitVec 8) (edgeCount : Nat) (half : Byte) (now : Tick) (total : BitVec 32)
    (edges bins : List Sample32) : (Reply.histRead generation edgeCount half now total edges bins).data =
      layoutBytes (histReadFields generation edgeCount half now total) ++ (edgeBytes edges ++ edgeBytes bins) := by
  simp [Reply.data, histReadFields, tickBytes]

/-- The table of COUPLE_REMOVE (R195). -/
def couplingFields (c : Coupling) : List Field :=
  [.byte 0x00, .byte (BitVec.ofNat 8 c.source.val), .byte c.event.code, .byte (BitVec.ofNat 8 c.target.val), .byte c.action.code,
    ⟨2, c.fires⟩, ⟨2, c.misses⟩]

theorem coupleRemove_data (c : Coupling) : (Reply.coupleRemove c).data = layoutBytes (couplingFields c) := by
  simp [Reply.data, Coupling.bytes, couplingFields]

/-- A listed coupling: its slot, and its eight bytes (R195). -/
def listedBytes (sc : SlotId × Coupling) : List Byte := BitVec.ofNat 8 sc.1.val :: sc.2.bytes

theorem listedBytes_length (sc : SlotId × Coupling) : (listedBytes sc).length = 9 := by simp [listedBytes, Coupling.bytes]

/-- The table of COUPLE_LIST up to the couplings (R195). -/
def coupleListFields (occupied : List (SlotId × Coupling)) : List Field := [.byte 0x00, .byte (BitVec.ofNat 8 occupied.length)]

theorem coupleList_data (occupied : List (SlotId × Coupling)) :
    (Reply.coupleList occupied).data = layoutBytes (coupleListFields occupied) ++ occupied.flatMap listedBytes := by
  change _ :: _ :: occupied.flatMap listedBytes = _
  simp [coupleListFields]

/-! ### Reports (R196) -/

/-- What follows the header of a probe report (R196). -/
def bodyFields : ReportBody → List Field
  | .window _ v wd | .settle _ v wd | .drift _ v wd => [⟨4, v⟩, ⟨3, wd⟩]
  | .runEnd _ wd o q smp acc =>
    [⟨3, wd⟩, .byte o.code, ⟨2, q⟩, .byte (BitVec.ofNat 8 (flagByte [smp.isSome, acc.isSome])), ⟨4, (shownSample smp).value⟩,
      .byte (shownSample smp).flagsByte, ⟨4, (acc.getD .cleared).value⟩, .byte (acc.getD .cleared).flagsByte]
  | .snapshot _ v => [⟨4, v⟩]

/-- The table of a probe report (R196). -/
def probeReportFields (p : ProbeId) (g : BitVec 8) (stamp : Tick) (lostBefore : BitVec 16) (body : ReportBody) : List Field :=
  .byte (BitVec.ofNat 8 p.val) :: .byte g :: ⟨6, stamp⟩ :: ⟨2, lostBefore⟩ :: .byte body.flags.byte :: bodyFields body

theorem layoutBytes_bodyFields (body : ReportBody) : layoutBytes (bodyFields body) = body.bytes := by
  cases body <;> simp [bodyFields, ReportBody.bytes, shownSample]

theorem probeReport_data (p : ProbeId) (g : BitVec 8) (stamp : Tick) (lostBefore : BitVec 16) (body : ReportBody) :
    (Report.probe p g stamp lostBefore body).data = layoutBytes (probeReportFields p g stamp lostBefore body) := by
  simp [Report.data, probeReportFields, layoutBytes_bodyFields, tickBytes]

/-- The table of STAGE_EXPIRED (R196). -/
def stageExpiredFields (stamp : Tick) (p : ProbeId) (ph : Phase) (g : BitVec 8) : List Field :=
  [.byte 0xFF, ⟨6, stamp⟩, .byte (BitVec.ofNat 8 p.val), .byte ph.code, .byte g]

theorem stageExpired_data (stamp : Tick) (p : ProbeId) (ph : Phase) (g : BitVec 8) :
    (Report.stageExpired stamp p ph g).data = layoutBytes (stageExpiredFields stamp p ph g) := by
  simp [Report.data, stageExpiredFields, tickBytes]

end Sys2Proof.Machine
end

section
/-! SUPPORT. O48: what stands at each offset of the replies and reports, read off their tables. -/

namespace Sys2Proof.Machine

/-! ### PROBE_READ -/

theorem Probe.shownAcc_of_shown {pr : Probe} (h : pr.state = .running ∨ pr.state = .done) : pr.shownAcc = pr.acc :=
  if_pos (pr.accShown_iff.2 h)

theorem Probe.shownAcc_of_not_shown {pr : Probe} (h : ¬ (pr.state = .running ∨ pr.state = .done)) : pr.shownAcc = .cleared :=
  if_neg fun hs => h (pr.accShown_iff.1 hs)

section
variable {pr : Probe} {pl : Plan} (hpl : pr.plan = some pl)
include hpl

theorem Probe.openByte_of_shown (hs : pr.state = .running ∨ pr.state = .done)
    (hk : pl.kind = .levelTime ∨ pl.kind = .highTime ∨ pl.kind = .span) :
    (boolByte (pr.openShown && pr.windowOpen)).toNat = pr.windowOpen.toNat := by
  rw [(Probe.openShown_iff hpl).2 ⟨hs, hk⟩, Bool.true_and, boolByte_toNat]

theorem Probe.openByte_of_not_shown
    (h : ¬ ((pr.state = .running ∨ pr.state = .done) ∧ (pl.kind = .levelTime ∨ pl.kind = .highTime ∨ pl.kind = .span))) :
    (boolByte (pr.openShown && pr.windowOpen)).toNat = 0 := by
  rw [Bool.eq_false_iff.2 (mt (Probe.openShown_iff hpl).1 h), Bool.false_and]; rfl

variable (hfree : pr.state ≠ .free) (waiting : Nat)
include hfree

theorem probeRead_fields : FieldsAt (Reply.probeRead pr waiting).data 26 (probeReadFields pr waiting) := by
  have hlen : (0x00 :: pr.state.code :: pl.record.bytes).length = 26 := by simp [PlanRecord.bytes_length]
  rw [probeRead_data hpl hfree]
  exact fieldsAt_layoutBytes hlen _ _

theorem probeRead_length : (Reply.probeRead pr waiting).data.length = 73 + 4 * pr.qual.history.length := by
  rw [probeRead_data hpl hfree]
  simp [probeReadFields, PlanRecord.bytes_length]
  omega

theorem probeRead_record : ((Reply.probeRead pr waiting).data.drop 2).take 24 = pl.record.bytes := by
  rw [probeRead_data hpl hfree]
  exact List.take_left' pl.record.bytes_length

theorem probeRead_history {i : Nat} (hi : i < pr.qual.history.length) :
    leField (Reply.probeRead pr waiting).data (73 + 4 * i) 4 = pr.qual.history[i].toNat := by
  have hlen : (0x00 :: pr.state.code :: pl.record.bytes ++ layoutBytes (probeReadFields pr waiting)).length = 73 := by
    simp [probeReadFields, PlanRecord.bytes_length]
  rw [probeRead_data hpl hfree, ← List.append_assoc, leField_append_right hlen, leField_edgeBytes hi]

/-- The presence byte, bit by bit (R195). -/
theorem probeRead_presence {i : Nat} (hi : i < 8) : (byteField (Reply.probeRead pr waiting).data 27).getLsbD i =
    [pr.armedFrom.isSome, pr.startAt.isSome, pr.runStart.isSome, pr.lastSample.isSome, pr.lastOutcome.isSome, pr.accShown,
      pr.openShown].getD i false := by
  obtain ⟨-, hpresence, -⟩ := probeRead_fields hpl hfree waiting
  have hbyte : byteField (Reply.probeRead pr waiting).data 27 = pr.presence :=
    BitVec.eq_of_toNat_eq ((byteField_toNat _ _).trans hpresence)
  rw [hbyte, pr.presence_getLsbD hi]

theorem probeRead_status_state :
    leField (Reply.probeRead pr waiting).data 0 1 = 0 ∧ leField (Reply.probeRead pr waiting).data 1 1 = pr.state.code.toNat := by
  rw [probeRead_data hpl hfree]
  exact ⟨rfl, rfl⟩

/-- The fields of PROBE_READ that only RUNNING and DONE show, 0 elsewhere (R7, R195). -/
theorem probeRead_working :
    let d := (Reply.probeRead pr waiting).data
    let shown := pr.state = .running ∨ pr.state = .done
    let edgeDefined := pl.kind = .levelTime ∨ pl.kind = .highTime ∨ pl.kind = .span
    (shown → leField d 44 4 = pr.acc.value.toNat ∧ leField d 48 1 = pr.acc.saturated.toNat) ∧ (¬ shown → leField d 44 6 = 0) ∧
      (shown → edgeDefined → leField d 49 1 = pr.windowOpen.toNat) ∧ (¬ edgeDefined → leField d 49 1 = 0) := by
  intro d shown edgeDefined
  obtain ⟨-, -, -, -, -, -, hacc, hflags, hopen, -⟩ := probeRead_fields hpl hfree waiting
  refine ⟨fun h => ?_, fun h => ?_, fun h hk => hopen.trans (Probe.openByte_of_shown hpl h hk),
    fun hk => hopen.trans (Probe.openByte_of_not_shown hpl fun ho => hk ho.2)⟩
  · rw [Probe.shownAcc_of_shown h] at hacc hflags
    exact ⟨hacc, hflags.trans pr.acc.flagsByte_toNat⟩
  · have hnone := hopen.trans (Probe.openByte_of_not_shown hpl fun ho => h ho.1)
    rw [Probe.shownAcc_of_not_shown h] at hacc hflags
    exact leField_add_eq_zero (m := 5) (leField_add_eq_zero hacc hflags) hnone

end

/-! ### The other replies -/

theorem status_fields (v : StatusView) : FieldsAt (Reply.status v).data 0 (statusFields v) := by
  rw [status_data]
  exact fieldsAt_whole _

theorem status_length (v : StatusView) : (Reply.status v).data.length = 30 := by
  simp [status_data, statusFields]

section
variable (now : Tick) (lines : Vector Line 16) (thresholds : Vector Nat 4)

theorem lineRead_fields : FieldsAt (Reply.lineRead now lines thresholds).data 0 (lineReadFields now lines) := by
  rw [lineRead_data]
  exact fieldsAt_front _ _

theorem lineRead_length : (Reply.lineRead now lines thresholds).data.length = 35 := by
  simp [lineRead_data, selectionBytes_length, lineReadFields, List.length_flatMap]

theorem lineRead_selection (i : LineId) :
    leField (Reply.lineRead now lines thresholds).data (11 + i.val) 1 = (lines[i.val]).selection.val := by
  have hi : i.val < lines.toList.length := by rw [Vector.length_toList]; exact i.isLt
  have hlen : (layoutBytes (lineReadFields now lines)).length = 11 := layoutBytes_length _
  rw [lineRead_data, leField_append_right hlen, leField_append_of_le (by rw [selectionBytes_length]; omega), selectionBytes,
    leField_map _ hi, Vector.getElem_toList]
  exact finByte_toNat (lines[i.val]).selection (by decide)

theorem lineRead_threshold {k : Fin 4} (h : thresholds[k.val] ≤ 4095) :
    leField (Reply.lineRead now lines thresholds).data (27 + 2 * k.val) 2 = thresholds[k.val] := by
  have hk : k.val < thresholds.toList.length := by rw [Vector.length_toList]; exact k.isLt
  have hlen : (layoutBytes (lineReadFields now lines) ++ selectionBytes lines).length = 27 := by
    rw [List.length_append, selectionBytes_length, layoutBytes_length]; rfl
  rw [lineRead_data, ← List.append_assoc, leField_append_right hlen, leField_flatMap_record (leBytes_length 2) hk, leNat_leBytes,
    Vector.getElem_toList]
  exact Nat.mod_eq_of_lt (h.trans_lt (by decide))

end

theorem snapshot_fields (acc : Accumulator) (windowsDone : BitVec 24) (quadErrors : BitVec 16) (now : Tick) :
    FieldsAt (Reply.snapshot acc windowsDone quadErrors now).data 0 (snapshotFields acc windowsDone quadErrors now) := by
  rw [snapshot_data]
  exact fieldsAt_whole _

theorem snapshot_length (acc : Accumulator) (windowsDone : BitVec 24) (quadErrors : BitVec 16) (now : Tick) :
    (Reply.snapshot acc windowsDone quadErrors now).data.length = 17 := by
  simp [snapshot_data, snapshotFields]

section
variable (generation : BitVec 8) (edgeCount : Nat) (half : Byte) (now : Tick) (total : BitVec 32) (edges bins : List Sample32)

theorem histRead_fields : FieldsAt (Reply.histRead generation edgeCount half now total edges bins).data 0
    (histReadFields generation edgeCount half now total) := by
  rw [histRead_data]
  exact fieldsAt_front _ _

theorem histRead_length :
    (Reply.histRead generation edgeCount half now total edges bins).data.length = 14 + 4 * (edges.length + bins.length) := by
  simp [histRead_data, histReadFields]
  omega

theorem histReadFields_length : (layoutBytes (histReadFields generation edgeCount half now total)).length = 14 := layoutBytes_length _

theorem histRead_edge {i : Nat} (hi : i < edges.length) :
    leField (Reply.histRead generation edgeCount half now total edges bins).data (14 + 4 * i) 4 = edges[i].toNat := by
  rw [histRead_data, leField_append_right (histReadFields_length ..), leField_append_of_le (by rw [edgeBytes_length]; omega),
    leField_edgeBytes hi]

theorem histRead_bin {i : Nat} (hi : i < bins.length) :
    leField (Reply.histRead generation edgeCount half now total edges bins).data (14 + 4 * edges.length + 4 * i) 4 =
      bins[i].toNat := by
  rw [histRead_data, Nat.add_assoc, leField_append_right (histReadFields_length ..), leField_append_right (edgeBytes_length edges),
    leField_edgeBytes hi]

end

theorem coupleRemove_fields (c : Coupling) : FieldsAt (Reply.coupleRemove c).data 0 (couplingFields c) := by
  rw [coupleRemove_data]
  exact fieldsAt_whole _

theorem coupleRemove_length (c : Coupling) : (Reply.coupleRemove c).data.length = 9 := by
  simp [coupleRemove_data, couplingFields]

section
variable {occupied : List (SlotId × Coupling)}

theorem coupleList_fields : FieldsAt (Reply.coupleList occupied).data 0 (coupleListFields occupied) := by
  rw [coupleList_data]
  exact fieldsAt_front _ _

theorem coupleList_length : (Reply.coupleList occupied).data.length = 2 + 9 * occupied.length := by
  simp [coupleList_data, coupleListFields, List.length_flatMap, listedBytes_length]
  omega

theorem coupleList_slot {i : Nat} (hi : i < occupied.length) :
    leField (Reply.coupleList occupied).data (2 + 9 * i) 1 = (occupied[i]).1.val := by
  rw [coupleList_data, leField_append_right (m := 2) (layoutBytes_length _)]
  exact (leField_flatMap listedBytes_length hi (j := 0) (by decide)).trans (finByte_toNat _ (by decide))

/-- What follows the slot of a listed coupling is what COUPLE_REMOVE would answer for it (R195). -/
theorem coupleList_coupling {i : Nat} (hi : i < occupied.length) :
    ((Reply.coupleList occupied).data.drop (3 + 9 * i)).take 8 = ((Reply.coupleRemove (occupied[i]).2).data).drop 1 := by
  have hoff : 3 + 9 * i = 2 + (9 * i + 1) := by omega
  rw [coupleList_data, hoff, ← List.drop_drop, List.drop_left' (i := 2) (layoutBytes_length _),
    take_drop_flatMap listedBytes_length hi (by decide)]
  rfl

end

/-! ### Reports -/

section
variable (p : ProbeId) (g : BitVec 8) (stamp : Tick) (lostBefore : BitVec 16)

theorem probeReport_fields (body : ReportBody) :
    FieldsAt (Report.probe p g stamp lostBefore body).data 0 (probeReportFields p g stamp lostBefore body) := by
  rw [probeReport_data]
  exact fieldsAt_whole _

theorem probeReport_length (body : ReportBody) :
    (Report.probe p g stamp lostBefore body).data.length = 11 + ((bodyFields body).map Field.width).sum := by
  simp [probeReport_data, probeReportFields]
  omega

theorem probeReport_header (body : ReportBody) :
    let d := (Report.probe p g stamp lostBefore body).data
    leField d 0 1 = p.val ∧ leField d 1 1 = g.toNat ∧ leField d 2 6 = stamp.toNat ∧ leField d 8 2 = lostBefore.toNat ∧
      leField d 10 1 = body.flags.saturated.toNat + 2 * body.flags.settled.toNat + 4 * body.flags.level.toNat +
        8 * body.flags.illegal.toNat := by
  obtain ⟨hp, hg, hstamp, hlost, hflags, -⟩ := probeReport_fields p g stamp lostBefore body
  exact ⟨hp.trans (finByte_toNat p (by decide)), hg, hstamp, hlost, hflags.trans body.flags.byte_toNat⟩

/-- WINDOW, SETTLE and DRIFT have one layout (R196). -/
theorem probeReport_value {body : ReportBody} {v : Sample32} {wd : BitVec 24} (h : bodyFields body = [⟨4, v⟩, ⟨3, wd⟩]) :
    let d := (Report.probe p g stamp lostBefore body).data
    d.length = 18 ∧ leField d 11 4 = v.toNat ∧ leField d 15 3 = wd.toNat := by
  have hfields := probeReport_fields p g stamp lostBefore body
  have hlen : (Report.probe p g stamp lostBefore body).data.length = 18 := by
    rw [probeReport_length, h]; rfl
  rw [probeReportFields, h] at hfields
  obtain ⟨-, -, -, -, -, hv, hwd, -⟩ := hfields
  exact ⟨hlen, hv, hwd⟩

theorem probeReport_runEnd (f : ReportFlags) (wd : BitVec 24) (o : RunOutcome) (q : BitVec 16) (smp : Option Sample)
    (acc : Option Accumulator) :
    let d := (Report.probe p g stamp lostBefore (.runEnd f wd o q smp acc)).data
    leField d 11 3 = wd.toNat ∧ leField d 14 1 = o.code.toNat ∧ leField d 15 2 = q.toNat ∧
      leField d 17 1 = smp.isSome.toNat + 2 * acc.isSome.toNat ∧
      leField d 18 4 = (shownSample smp).value.toNat ∧ leField d 22 1 = (shownSample smp).flagsByte.toNat ∧
      leField d 23 4 = (acc.getD .cleared).value.toNat ∧ leField d 27 1 = (acc.getD .cleared).flagsByte.toNat := by
  obtain ⟨-, -, -, -, -, hwd, ho, hq, hpresent, hsmp, hsmpFlags, hacc, haccFlags, -⟩ :=
    probeReport_fields p g stamp lostBefore (.runEnd f wd o q smp acc)
  exact ⟨hwd, ho, hq, hpresent.trans (flagByte_toNat (by simp)), hsmp, hsmpFlags, hacc, haccFlags⟩

end

theorem stageExpired_fields (stamp : Tick) (p : ProbeId) (ph : Phase) (g : BitVec 8) :
    FieldsAt (Report.stageExpired stamp p ph g).data 0 (stageExpiredFields stamp p ph g) := by
  rw [stageExpired_data]
  exact fieldsAt_whole _

theorem stageExpired_length (stamp : Tick) (p : ProbeId) (ph : Phase) (g : BitVec 8) :
    (Report.stageExpired stamp p ph g).data.length = 10 := by
  simp [stageExpired_data, stageExpiredFields]

/-! ### O48 -/

/-- Settles O48: each clause reads the table of its reply or report (`probeRead_fields` and the like); refusals, short replies and
codes are the model's bytes as they stand. -/
theorem repliesAndReportsHaveTheirLayouts : Obligations.RepliesAndReportsHaveTheirLayouts := by
  unfold Obligations.RepliesAndReportsHaveTheirLayouts
  intro holds
  refine ⟨fun pr pl w hpl hfree hw hlen => ?_, fun pr w h => probeRead_data_free h w, fun v hp hs => ?_,
    fun now lines thresholds ht => ?_, fun acc wd q now => ?_, fun g n half now total es bs hn => ?_,
    fun p g stamp lb body => ?_, fun cause stamp p ph g => ?_, fun st n f p ph k slot => ?_,
    fun now c g profile m n l sel level ph st threshold total slot => ?_, fun c occ hocc => ?_, ?_⟩
  · intro d shown
    have hfields := probeRead_fields hpl hfree w
    simp only [FieldsAt, probeReadFields, Field.byte_width, Field.byte_value, Nat.reduceAdd] at hfields
    obtain ⟨hgeneration, -, harmed, hstart, hrun, hdone, -, -, -, hsample, hsampleFlags, houtcome, hquad, hgenerated, htransmitted,
      hlost, hwaiting, hsettled, hhistory, -⟩ := hfields
    obtain ⟨hstatus, hstate⟩ := probeRead_status_state hpl hfree w
    obtain ⟨hacc, hnoAcc, hopen, hnotOpen⟩ := probeRead_working hpl hfree w
    obtain ⟨hsome, hnone⟩ := leField_shownSample hsample hsampleFlags
    have hbit {i : Nat} (hi : i < 8) := probeRead_presence hpl hfree w hi
    refine ⟨probeRead_length hpl hfree w, hstatus, hstate, probeRead_record hpl hfree w, hgeneration, hbit (by decide),
      hbit (by decide), hbit (by decide), hbit (by decide), hbit (by decide), ?_, ?_, hbit (by decide), fun r h => ?_, fun h => ?_,
      hstart, hrun, hdone, hacc, hnoAcc, hopen, fun h1 h2 h3 => hnotOpen (by simp [h1, h2, h3]), hsome, hnone, fun o h => ?_,
      fun h => ?_, hquad, hgenerated, htransmitted, hlost, hwaiting.trans (byte_toNat_of_lt hw), hsettled.trans (boolByte_toNat _),
      hhistory.trans (byte_toNat_of_lt (by omega)), fun i hi => probeRead_history hpl hfree w hi⟩
    · rw [hbit (by decide)]
      exact pr.accShown_iff
    · rw [hbit (by decide)]
      exact Probe.openShown_iff hpl
    · rwa [h] at harmed
    · rwa [h] at harmed
    · rwa [h] at houtcome
    · rwa [h] at houtcome
  · intro d
    have hfields := status_fields v
    simp only [FieldsAt, statusFields, Field.byte_width, Field.byte_value, Nat.reduceAdd, byte_toNat_of_lt hp, byte_toNat_of_lt hs]
      at hfields
    obtain ⟨hstatus, hgood, hcheck, hlength, hgap, hbreak, hbusy, hreplay, hlost, hcut, hprobes, hsystem, hcredits, howner, hphase,
      hnow, -⟩ := hfields
    refine ⟨status_length v, hstatus, hgood, hcheck, hlength, hgap, hbreak, hbusy, hreplay, hlost, hcut, hprobes, hsystem, hcredits,
      fun h => ?_, fun st h => ?_, hnow⟩
    · rw [h] at howner hphase
      exact (leField_add d 22 1 1).trans (by rw [howner, hphase]; rfl)
    · rw [h] at howner hphase
      exact ⟨howner.trans (finByte_toNat st.owner (by decide)), hphase⟩
  · obtain ⟨hstatus, hnow, hraw, hfiltered, -⟩ := lineRead_fields now lines thresholds
    refine ⟨lineRead_length .., hstatus, hnow, fun i => ⟨?_, ?_, lineRead_selection ..⟩, fun k => lineRead_threshold _ _ _ (ht k)⟩
    · exact (congrArg (·.testBit i.val) hraw).trans (testBit_levels lines _ i)
    · exact (congrArg (·.testBit i.val) hfiltered).trans (testBit_levels lines _ i)
  · obtain ⟨hstatus, hacc, hflags, hdone, hquad, hnow, -⟩ := snapshot_fields acc wd q now
    exact ⟨snapshot_length .., hstatus, hacc, hflags.trans acc.flagsByte_toNat, hdone, hquad, hnow⟩
  · obtain ⟨hstatus, hg, hcount, hhalf, hnow, htotal, -⟩ := histRead_fields g n half now total es bs
    exact ⟨histRead_length .., hstatus, hg, hcount.trans (byte_toNat_of_lt hn), hhalf, hnow, htotal,
      fun i hi => histRead_edge g n half now total es bs hi, fun i hi => histRead_bin g n half now total es bs hi⟩
  · have hheader := probeReport_header p g stamp lb body
    refine ⟨fun f v wd h => ?_, fun f v h => ?_, fun f wd o q smp acc h => ?_, ?_⟩
    · have hfields : bodyFields body = [⟨4, v⟩, ⟨3, wd⟩] := by rcases h with rfl | rfl | rfl <;> rfl
      obtain ⟨hlen, hv, hwd⟩ := probeReport_value p g stamp lb hfields
      refine ⟨hlen, ?_, hv, hwd⟩
      rcases h with rfl | rfl | rfl <;> exact hheader
    · subst h
      obtain ⟨-, -, -, -, -, hv, -⟩ := probeReport_fields p g stamp lb (.snapshot f v)
      exact ⟨probeReport_length .., hheader, hv⟩
    · subst h
      obtain ⟨hwd, ho, hq, hpresent, hsmp, hsmpFlags, hacc, haccFlags⟩ := probeReport_runEnd p g stamp lb f wd o q smp acc
      obtain ⟨hsome, hnone⟩ := leField_shownSample hsmp hsmpFlags
      exact ⟨probeReport_length .., hheader, hwd, ho, hq, hpresent, hsome, hnone,
        leField_partialAcc hacc haccFlags⟩
    · cases body <;> rfl
  · obtain ⟨hnone, hstamp, hp, hph, hg, -⟩ := stageExpired_fields stamp p ph g
    exact ⟨rfl, by cases cause <;> rfl, rfl, stageExpired_length .., hnone, hstamp, hp.trans (finByte_toNat p (by decide)), hph, hg⟩
  · exact ⟨rfl, rfl, rfl, rfl, rfl, rfl, rfl, rfl, rfl, rfl, rfl, rfl, rfl, rfl, rfl, rfl⟩
  · exact ⟨rfl, rfl, rfl, rfl, rfl, rfl, rfl, rfl, rfl, rfl, rfl, rfl, rfl, rfl, rfl, rfl, rfl, rfl⟩
  · obtain ⟨hstatus, hsource, hevent, htarget, haction, hfires, hmisses, -⟩ := coupleRemove_fields c
    obtain ⟨hlist, hcount, -⟩ := coupleList_fields (occupied := occ)
    exact ⟨coupleRemove_length c, hstatus, hsource.trans (finByte_toNat c.source (by decide)), hevent,
      htarget.trans (finByte_toNat c.target (by decide)), haction, hfires, hmisses, coupleList_length, hlist,
      hcount.trans (byte_toNat_of_lt (by omega)), fun i hi => ⟨coupleList_slot hi, coupleList_coupling hi⟩⟩
  · exact ⟨rfl, rfl, rfl, rfl, rfl, rfl⟩

end Sys2Proof.Machine
end

section
/-! SUPPORT. What a step takes from the queue of commands. -/

namespace Sys2Proof.Machine

/-- A step on a queue that is not empty is its front command's meaning, on the state that keeps the queue's rest. -/
theorem step_of_pending_cons {c : Instr} {rest : List Instr} {s : State} (h : s.pending = c :: rest) :
    step s = exec c { s with pending := rest } := by
  unfold step
  rw [h]

/-- Settles O1: the queue it names is not empty, and its rest replaces it. -/
theorem stepRunsFrontCommand : Obligations.StepRunsFrontCommand :=
  fun c rest s => step_of_pending_cons (s := { s with pending := c :: rest }) rfl

end Sys2Proof.Machine
end
